-- ==== Sys2Proof/Word.lean ====
section
/-! DEFINITION. The word types of the Imdara C3: the byte of the controller port, the link and the
store, and the 384-dot row of the print head. -/

namespace Sys2Proof

/-- One byte: a port byte, a received or sent code, a byte of the serial store. -/
abbrev Byte := BitVec 8

/-- One row of the 384-dot head; bit i is head dot i, and 1 is black (02 R32, R35). -/
abbrev Dots := BitVec 384

/-- The byte whose value is the number `n` taken modulo 256. -/
def byteOf (n : Nat) : Byte := BitVec.ofNat 8 n

end Sys2Proof
end

