-- ==== Sys2Proof/Syntax.lean ====
section
/-! DEFINITION. The commands of the Imdara C3: one constructor for each row of
spec/opcode_table.json, with the row's operands. -/

namespace Sys2Proof

/-- A command of the block. A controller command frame carries its payload; an event of the world
outside carries what it measures or reads. -/
inductive Instr where
  -- controller command frames (Table 11-2)
  /-- STATUS (R201). -/
  | status (payload : List Byte)
  /-- SAVE_STORE (R205). -/
  | saveStore (payload : List Byte)
  /-- DORMANT (R206). -/
  | dormant (payload : List Byte)
  /-- SET_OPTION (R191). -/
  | setOption (payload : List Byte)
  /-- GET_OPTION (R192). -/
  | getOption (payload : List Byte)
  /-- PRINT_TEXT (R18). -/
  | printText (payload : List Byte)
  /-- END_LINE (R19). -/
  | endLine (payload : List Byte)
  /-- FEED (R64). -/
  | feed (payload : List Byte)
  /-- PURGE (R8). -/
  | purge (payload : List Byte)
  /-- PRINT_STOP (R46). -/
  | printStop (payload : List Byte)
  /-- PRINT_GO (R46). -/
  | printGo (payload : List Byte)
  /-- LOAD_CHARACTER (R36). -/
  | loadCharacter (payload : List Byte)
  /-- LINK_ORIGINATE (R74). -/
  | linkOriginate (payload : List Byte)
  /-- LINK_ANSWER (R74). -/
  | linkAnswer (payload : List Byte)
  /-- LINK_DROP (R93). -/
  | linkDrop (payload : List Byte)
  /-- SEND (R112). -/
  | send (payload : List Byte)
  /-- SEND_BREAK (R92). -/
  | sendBreak (payload : List Byte)
  /-- LOAD_KEYMAP (R162). -/
  | loadKeymap (payload : List Byte)
  /-- LOAD_FORM (R166). -/
  | loadForm (payload : List Byte)
  /-- DELETE_FORM (R168). -/
  | deleteForm (payload : List Byte)
  /-- OPEN_FORM (R171). -/
  | openForm (payload : List Byte)
  /-- SET_FIELD (R177). -/
  | setField (payload : List Byte)
  /-- GET_FIELD (R178). -/
  | getField (payload : List Byte)
  /-- COMMIT_FORM (R181). -/
  | commitForm (payload : List Byte)
  /-- CANCEL_FORM (R187). -/
  | cancelForm (payload : List Byte)
  /-- UNKNOWN_COMMAND (R201): a frame with a code of its own. -/
  | unknownCommand (code : Byte) (payload : List Byte)
  -- port strobes
  /-- COMMAND_BYTE_WRITE (R200): a write at A0 = 0. -/
  | commandByteWrite (b : Byte)
  /-- PORT_CLEAR (R200): a write at A0 = 1; its byte has no meaning. -/
  | portClear
  /-- OUTPUT_FIFO_READ (R198): a read at A0 = 0. -/
  | outputFifoRead
  /-- STATUS_BYTE_READ (R199): a read at A0 = 1. -/
  | statusByteRead
  -- reset, store and power
  /-- RESET_ASSERT (R208). -/
  | resetAssert
  /-- RESET_RELEASE (R208), with the level of STORESEL that is sampled. -/
  | resetRelease (storesel : Bool)
  /-- STORE_LOAD_END (R204): `missed` is the first device address or address byte of the load that the
  store left unacknowledged, counted from 0 over its transactions, none where it acknowledged all. -/
  | storeLoadEnd (missed : Option Nat)
  /-- SAVE_WRITE_DONE (R205). -/
  | saveWriteDone
  /-- SAVE_POLL_TIMEOUT (R205). -/
  | savePollTimeout
  /-- SAVE_WRITE_NO_ACKNOWLEDGE (R205). -/
  | saveWriteNoAcknowledge
  /-- KEY_WAKE_CLOSURE (R148), with the keys that are closed at the event and those that were closed at
  the dormant entry before it, bit k for key k; left out, every key is closed and none was. -/
  | keyWakeClosure (closed : BitVec 80 := 0xFFFFFFFFFFFFFFFFFFFF#80) (atEntry : BitVec 80 := 0#80)
  /-- WAKING_END (R67, R207). -/
  | wakingEnd
  -- sensors and print engine
  /-- PAPER_ABSENT (R43). -/
  | paperAbsent
  /-- PAPER_PRESENT (R43). -/
  | paperPresent
  /-- PAPER_COUNT_EXPIRY (R43). -/
  | paperCountExpiry
  /-- LEVER_OPEN (R44). -/
  | leverOpen
  /-- LEVER_CLOSED (R44). -/
  | leverClosed
  /-- LEVER_COUNT_EXPIRY (R44). -/
  | leverCountExpiry
  /-- HOT_MEASUREMENT (R41), with T in degrees C. -/
  | hotMeasurement (t : Int)
  /-- LOW_SUPPLY_MEASUREMENT (R42), with V in dV. -/
  | lowSupplyMeasurement (v : Nat)
  /-- TEMPERATURE_MEASUREMENT (R49), with T in degrees C. -/
  | temperatureMeasurement (t : Int)
  /-- HEAD_LOAD (R55). -/
  | headLoad
  /-- STROBE_END (R55). -/
  | strobeEnd
  /-- MOTOR_STEP (R62), with the V at VSENSE that a row opened at this step measures (R48). -/
  | motorStep (v : Nat)
  -- print queue
  /-- WAIT_LIST_SERVICE (R4). -/
  | waitListService
  /-- PENDING_BLOCK_APPEND (R5). -/
  | pendingBlockAppend
  /-- FAR_HOLD_TIMEOUT (R17). -/
  | farHoldTimeout
  -- keyboard
  /-- SCAN_REQUEST (R134). -/
  | scanRequest
  /-- KEY_ROW_SCAN (R135): bit c is 1 when KSENSEc reads closed in the scan of the row pointer's row. -/
  | keyRowScan (closed : BitVec 10)
  /-- TYPEMATIC_TIMER (R146). -/
  | typematicTimer
  /-- KEY_EVENT_EXAMINE (R153). -/
  | keyEventExamine
  -- coupler link
  /-- CARRIER_PRESENT (R73), with the raw level L in tenths of a dB. -/
  | carrierPresent (level : Int)
  /-- CARRIER_ABSENT (R73), with the raw level L in tenths of a dB. -/
  | carrierAbsent (level : Int)
  /-- CONNECT_WAIT_EXPIRY (R76). -/
  | connectWaitExpiry
  /-- QUALIFY_EXPIRY (R79). -/
  | qualifyExpiry
  /-- HOLDOVER_EXPIRY (R82). -/
  | holdoverExpiry
  /-- CHARACTER_RECEIVED (R100): the data bits, the parity bit and the first stop bit as sampled
  (`stopMark` is true for mark), and the raw level L at the end of the character. -/
  | characterReceived (data : Byte) (parityBit : Bool) (stopMark : Bool) (level : Int)
  /-- START_BIT (R98): `midSpace` is true when the start bit is still space at its middle. -/
  | startBit (midSpace : Bool)
  /-- MARK_DECISION (R98). -/
  | markDecision
  /-- BREAK_PENDING (R88). -/
  | breakPending
  /-- RECEIVED_BREAK (R89). -/
  | receivedBreak
  /-- DISCONNECT_SPACE (R90). -/
  | disconnectSpace
  /-- BREAK_SEND_END (R91). -/
  | breakSendEnd
  /-- TRANSMIT_CHARACTER_END (R109). -/
  | transmitCharacterEnd
  -- directive parser and report feeder
  /-- DIRECTIVE_BYTE_TAKE (R117). -/
  | directiveByteTake
  /-- DIRECTIVE_TIMEOUT (R123). -/
  | directiveTimeout
  /-- REPLY_ADD (R126). -/
  | replyAdd
  /-- REPORT_BYTE_ADD (R185). -/
  | reportByteAdd
  deriving DecidableEq, Repr

end Sys2Proof
end

