-- ==== Sys2Proof/Decode.lean ====
section
/-! DEFINITION. Reading a command from a word of the table. The table of this block gives no bits to
any of its rows (opcode_table.json: every row's "fields" is empty and none has "fixed"), so no word
spells a command. The bytes of a controller command frame are read by the frame parser of the port
(11 R200), which is part of the machine. -/

namespace Sys2Proof

/-- The command that a word of the table spells: none, since no row has bits. -/
def decodeTableWord (_nbits _w : Nat) : Option Instr := none

end Sys2Proof
end

