-- ==== Sys2Proof/Config.lean ====
section
/-! DEFINITION. The fixed numbers of Table 1-5 and the FREE VALUES: what the spec leaves open and the
part (or the store) nevertheless has. A free value has no body, so no proof can rest on it. -/

namespace Sys2Proof.Config

/-- Places in the print queue (01 R1). -/
def pqCapacity : Nat := 40
/-- Entries of RXF (05 R101). -/
def rxfCapacity : Nat := 64
/-- Data bytes of TXQ; two more places are kept for flow codes (05 R108). -/
def txDataCapacity : Nat := 158
/-- Events of KQ (07 R144). -/
def kqCapacity : Nat := 16
/-- Entries of the down list (07 R141). -/
def downCapacity : Nat := 6
/-- Bytes of the command FIFO (11 R200). -/
def commandCapacity : Nat := 80
/-- Bytes of the output FIFO (11 R202). -/
def outputCapacity : Nat := 128
/-- Free places of the output FIFO that a command needs to run (11 R201). -/
def responseRoom : Nat := 38
/-- Rows of the tear gap (09 R183). -/
def tearRows : Nat := 48
/-- Rows of a form feed (01 R14) and of a direct feed (03 R65). -/
def formFeedRows : Nat := 96

/-- FREE VALUE (log entry 11). The dot at row `r`, column `j` of the built-in glyph of a code; `cond`
selects the condensed font. The spec gives no dot pattern, only the properties of 02 R27, which
`Machine.builtinDot` lays over this value. -/
opaque builtinGlyph : (cond : Bool) → (code : Byte) → (r j : Nat) → Bool

/-- FREE VALUE (log entry 9). The byte that a save writes at a store address of the template area
that no slot image covers (09 R188 and 11 R205 give the image and the FFh of an empty slot only). -/
opaque storeFill : (addr : Nat) → Byte

/-- FREE VALUE (log entry 10). What a byte of a body page holds after the page's write failed or was
cut by a reset (11 R205); `n` counts such writes. -/
opaque tornByte : (n addr : Nat) → Byte

/-- FREE VALUE (log entry 32). The engine letter of a status reply formed while the engine is DORMANT
or WAKING, where 06 R127 has none. -/
opaque engineLetter : Byte

end Sys2Proof.Config
end

