-- ==== Sys2Proof/Machine/State.lean ====
section
/-! DEFINITION. The state of the Imdara C3 as plain data, block by block (Table 1-1), and the machine
right after pin reset. Widths, rules and reset values are listed in INVENTORY.md. -/

namespace Sys2Proof.Machine

/-! ### Names the blocks share -/

/-- Who made a request or wrote a field (Table 11-4: 0 none, 1 KEY, 2 FAR, 3 CTL). -/
inductive Origin where
  | nobody | key | far | ctl
  deriving DecidableEq, Repr

/-- A font (02 R25). -/
inductive Font where
  | std | cond
  deriving DecidableEq, Repr

/-- The error kind of a received character (05 R99). -/
inductive ErrKind where
  | none | parity | framing
  deriving DecidableEq, Repr

/-- The kind of a key event (07 R143). -/
inductive KeyKind where
  | make | repeated
  deriving DecidableEq, Repr

/-- A keymap layer (08 R151). -/
inductive Layer where
  | base | shift | ctrl | func
  deriving DecidableEq, Repr

/-! ### Print queue and line assembler (01) -/

/-- One character position of a TEXT entry (01 R1). -/
structure Cell where
  code : Byte
  underline : Bool
  double : Bool
  error : Bool
  deriving DecidableEq, Repr

/-- The origin of a print queue entry (01 R1). -/
inductive Source where
  | far | ctl | key | form
  deriving DecidableEq, Repr

/-- What an entry prints: a line of cells, or a run of blank rows (01 R1). -/
inductive EntryBody where
  | text (font : Font) (cells : List Cell) (rotated : Bool) (spacing : Nat)
  | feed (rows : Nat)
  deriving DecidableEq, Repr

/-- One entry of the print queue (01 R1). -/
structure Entry where
  source : Source
  body : EntryBody
  lastOfBlock : Bool
  cutMark : Bool
  deriving DecidableEq, Repr

/-- The three open lines (01 R11). -/
inductive LineName where
  | far | ctl | key
  deriving DecidableEq, Repr

/-- A cell with the column at which it was placed. -/
structure Placed where
  col : Nat
  cell : Cell
  deriving DecidableEq, Repr

/-- An open line (01 R11). Its slots are the placed cells, by rising column; every other slot is
blank. -/
structure OpenLine where
  cells : List Placed
  column : Nat
  underline : Bool
  double : Bool
  font : Option Font
  waiting : List Entry
  deriving DecidableEq, Repr

/-- The line assembler: three open lines and the count of the FAR hold timer in ms (01 R11, R17). -/
structure LineAssembler where
  far : OpenLine
  ctl : OpenLine
  key : OpenLine
  farHoldMs : Nat
  deriving DecidableEq, Repr

/-- The print queue: entries oldest first, whether the head is in print, the pending FORM block and
the wait list (01 R1 to R5). -/
structure PrintQueue where
  entries : List Entry
  inPrint : Bool
  pendingBlock : Option (List Entry)
  waitList : List LineName
  deriving DecidableEq, Repr

/-! ### Character generator (02) -/

/-- User glyphs 80h to 9Fh of each font: a bitmap where the loaded flag is set, nothing where it is
clear (02 R29; log entry 25). -/
structure CharGen where
  std : List (Option (List Byte))
  cond : List (Option (List Byte))
  deriving DecidableEq, Repr

/-! ### Print engine (03) -/

/-- Engine states (03 R38). -/
inductive EngineState where
  | dormant | waking | idle | printing | feeding | held
  deriving DecidableEq, Repr

/-- The six hold causes (03 R40). -/
inductive HoldCause where
  | hot | lowSupply | paperOut | leverUp | linkTraining | stopped
  deriving DecidableEq, Repr

/-- The hold cause set (03 R40). -/
structure HoldSet where
  hot : Bool
  lowSupply : Bool
  paperOut : Bool
  leverUp : Bool
  linkTraining : Bool
  stopped : Bool
  deriving DecidableEq, Repr

/-- What step (1) of a row cycle samples (03 R47): the supply, the transmitter, fields 22 to 27. -/
structure RowInputs where
  v : Nat
  txOn : Bool
  wb : Int
  k : Int
  h : Int
  r : Int
  ib : Int
  itx : Int
  deriving DecidableEq, Repr

/-- A row being fired (03 R54, R55): its dots, both strobe widths, the phases still to be fired with
the present one first, and whether the present load or strobe is the extension. -/
structure Firing where
  dots : Dots
  wp : Nat
  we : Nat
  phases : List (List Nat)
  extension : Bool
  deriving DecidableEq, Repr

/-- The row in progress (03 R47, R63). -/
inductive Row where
  /-- No row in progress. -/
  | idle
  /-- A row cycle that waits for its temperature measurement (step 2). -/
  | tempWait (inp : RowInputs)
  /-- A phase waits for its head load (step 5). -/
  | load (f : Firing)
  /-- STB is asserted (step 5). -/
  | strobe (f : Firing)
  /-- A row cycle that waits for its step (step 6), with the dots it printed. -/
  | stepPrinted (dots : Dots)
  /-- A feed row that waits for its step. -/
  | stepFeed
  deriving DecidableEq, Repr

/-- Who has the shared serial bus (03 R60). -/
inductive Bus where
  | free | head | scan
  deriving DecidableEq, Repr

/-- A 500 ms count of PAPER or LEVER (03 R43, R44). -/
inductive SensorCount where
  | stopped | running | reached
  deriving DecidableEq, Repr

/-- The print engine (03 R38 to R68). -/
structure PrintEngine where
  engine : EngineState
  hold : HoldSet
  paperPending : Bool
  leverPending : Bool
  paperCount : SensorCount
  leverCount : SensorCount
  history : Dots
  lastV : Option Nat
  lastT : Option Int
  cadM : Nat
  cadS : Nat
  forced : Bool
  feedRun : Nat
  entryRow : Nat
  directFeed : Option Nat
  row : Row
  bus : Bus
  loadWait : Bool
  scanWait : Option Nat
  headLatch : Dots
  motorPos : Nat
  motorOn : Bool
  deriving DecidableEq, Repr

/-! ### Coupler link (04) and serial framer (05) -/

/-- Link states (04 R71). -/
inductive LinkState where
  | down | listen | answering | qualify | online | fade
  deriving DecidableEq, Repr

/-- Link roles (04 R69). -/
inductive Role where
  | none | originate | answer
  deriving DecidableEq, Repr

/-- Causes of a LINK STATE notice (04 R72). -/
inductive LinkCause where
  | command | key | carrier | timeout | disconnectSpace
  deriving DecidableEq, Repr

/-- Break send states (04 R91). -/
inductive BreakSend where
  | none | waiting | sending
  deriving DecidableEq, Repr

/-- Framing options as taken at a character boundary: TOR fields 3, 4 and 5 (05 R97). -/
structure Framing where
  dataBits : Int
  parity : Int
  stopBits : Int
  deriving DecidableEq, Repr

/-- The coupler link (04 R70). Timers hold the time they were started with; `level` is L. -/
structure Link where
  state : LinkState
  role : Role
  rate : Option Nat
  connectWait : Option Int
  qualify : Option Int
  holdover : Option Int
  gain : Int
  gainPending : Bool
  breakSend : BreakSend
  spaceRun : Option Framing
  breakPending : Bool
  errCount : Nat
  level : Option Int
  deriving DecidableEq, Repr

/-- Receive framer states (05 R98). -/
inductive RxState where
  | suspended | waitMark | ready
  | assembling (f : Framing)
  deriving DecidableEq, Repr

/-- An RXF entry (05 R101). -/
structure RxEntry where
  code : Byte
  err : ErrKind
  deriving DecidableEq, Repr

/-- The character in flight: the byte taken from TXQ and the bits on the line, true for mark
(05 R97, R109). -/
structure TxChar where
  byte : Byte
  bits : List Bool
  deriving DecidableEq, Repr

/-- The serial framer (05 R98 to R108). TXQ is the flow codes followed by the data bytes. -/
structure Framer where
  rx : RxState
  rxf : List RxEntry
  overrun : Bool
  flow : List Byte
  data : List Byte
  inFlight : Option TxChar
  paused : Bool
  farPaused : Bool
  deriving DecidableEq, Repr

/-! ### Directive parser (06) -/

/-- The twelve directive letters (06 R119). -/
inductive Directive where
  | o | q | a | k | f | v | g | c | x | u | w | l
  deriving DecidableEq, Repr

/-- A far-end option write: the field and the value's characters as written (06 R125). -/
structure FarWrite where
  field : Nat
  chars : List Byte
  deriving DecidableEq, Repr

/-- Parser states with what each holds (06 R116). -/
inductive Parser where
  | text
  /-- A code offered to the FAR line; `fromRxf` says that it is the RXF head entry. -/
  | offer (code : Byte) (err : ErrKind) (fromRxf : Bool)
  | intro
  | args (letter : Directive) (bytes : List Byte)
  | storeWait (w : FarWrite)
  | replyWait (reply : List Byte)
  deriving DecidableEq, Repr

/-! ### Keyboard (07, 08) -/

/-- Modifier kinds (07 R142). -/
inductive ModKind where
  | shift | ctrl | func
  deriving DecidableEq, Repr

/-- Debounce states with their count (07 R136). -/
inductive Debounce where
  | up
  | makePending (n : Nat)
  | down
  | breakPending (n : Nat)
  deriving DecidableEq, Repr

/-- One key (07 R136, R142, R149). -/
structure KeyState where
  deb : Debounce
  releaseRequired : Bool
  modKind : Option ModKind
  deriving DecidableEq, Repr

/-- A modifier snapshot (07 R143). -/
structure Mods where
  shift : Bool
  ctrl : Bool
  func : Bool
  deriving DecidableEq, Repr

/-- A key event (07 R143). -/
structure KeyEvent where
  key : Nat
  kind : KeyKind
  mods : Mods
  deriving DecidableEq, Repr

/-- An entry of the down list (07 R141). -/
structure DownKey where
  key : Nat
  rep : Bool
  deriving DecidableEq, Repr

/-- The running typematic timer: its subject, whether the delay or a period runs, and that time in
microseconds as it stood when it began (07 R145). -/
structure Typematic where
  key : Nat
  inDelay : Bool
  timeUs : Int
  deriving DecidableEq, Repr

/-- The keyboard scanner (07). `echoBegun`: the KEY line has taken the first 08h of the echo of the KQ head
event and refused the 20h behind it (01 R13, R16; log entry 23). -/
structure KeyScanner where
  keys : List KeyState
  downList : List DownKey
  rowPtr : Nat
  typematic : Option Typematic
  due : Bool
  kq : List KeyEvent
  kqOverrun : Bool
  echoBegun : Bool
  keyLatch : BitVec 8
  deriving DecidableEq, Repr

/-- The key actions of Table 8-1; `openForm n` is FORM n. -/
inductive Action where
  | breakKey | feedKey | orig | ans | drop | fieldNext | fieldBack | formEnter | formCancel
  | openForm (n : Nat)
  | localKey | shift | ctrl | func
  deriving DecidableEq, Repr

/-- What a keymap entry does (08 R151). -/
inductive EntryKind where
  | nothing
  | code (b : Byte)
  | action (a : Action)
  deriving DecidableEq, Repr

/-- A keymap entry (08 R151). -/
structure KeyEntry where
  kind : EntryKind
  rep : Bool
  deriving DecidableEq, Repr

/-- The key router (08): entry of key k, layer l at place 80 × l + k. -/
structure KeyRouter where
  keymap : List KeyEntry
  localFlag : Bool
  deriving DecidableEq, Repr

/-! ### Form unit (09) -/

/-- Field kinds (09 R164). -/
inductive FieldKind where
  | text | qty | price | ext | total | tax | grand
  deriving DecidableEq, Repr

/-- A field value (09 R169). -/
inductive Value where
  | empty
  | text (codes : List Byte)
  | num (n : Nat)
  | overflow
  deriving DecidableEq, Repr

/-- A field record of a template (09 R164). -/
structure Field where
  id : Nat
  line : Nat
  col : Nat
  width : Nat
  kind : FieldKind
  required : Bool
  protect : Bool
  qref : Nat
  pref : Nat
  label : List Byte
  default : Option Value
  deriving DecidableEq, Repr

/-- A template, with the image bytes it was decoded from (09 R164, R165; log entry 26). -/
structure Template where
  font : Font
  lines : List (List Byte)
  fields : List Field
  image : List Byte
  deriving DecidableEq, Repr

/-- Form states (09 R169). -/
inductive FormState where
  | closed | opened | pending | reporting
  deriving DecidableEq, Repr

/-- Causes of a FORM STATE notice (09 R170). -/
inductive FormCause where
  | opened | pending | reporting | noReport | reportSent | abandoned | cancelled
  | refusedState | refusedAbsent
  deriving DecidableEq, Repr

/-- A field of the form instance (09 R169). -/
structure FieldVal where
  id : Nat
  value : Value
  writer : Origin
  deriving DecidableEq, Repr

/-- A form instance that is not CLOSED (09 R169, R180, R185). -/
structure FormInst where
  phase : FormState
  number : Nat
  vals : List FieldVal
  total : Value
  tax : Value
  grand : Value
  current : Option Nat
  edit : List Byte
  report : List Byte
  reportPos : Nat
  deriving DecidableEq, Repr

/-- The template load buffer (09 R166). -/
structure LoadBuffer where
  number : Nat
  bytes : List Byte
  deriving DecidableEq, Repr

/-- An item of the KEY line output list (09 R172). -/
inductive KeyOutItem where
  | code (b : Byte)
  | commit
  deriving DecidableEq, Repr

/-- The form unit (09). -/
structure FormUnit where
  slots : List (Option Template)
  loadBuf : Option LoadBuffer
  inst : Option FormInst
  keyOut : List KeyOutItem
  deriving DecidableEq, Repr

/-! ### Option record (10) -/

/-- The option record: fields 1 to 37 as numbers, field 38, and field 39 with bit n - 1 for field n
(10 R189, R193). -/
structure OptionRecord where
  nums : List Int
  answerback : List Byte
  farSet : BitVec 40
  deriving DecidableEq, Repr

/-! ### Controller port and serial store (11) -/

/-- A complete command frame (11 R200). -/
structure CmdFrame where
  code : Byte
  payload : List Byte
  deriving DecidableEq, Repr

/-- Frame parser states; the bytes of the incomplete frame at the FIFO's tail stand in them
(11 R200). -/
inductive FrameParser where
  | code
  | length (code : Byte)
  | payload (code : Byte) (got : List Byte) (due : Nat)
  | lost
  deriving DecidableEq, Repr

/-- Part power states (11 R206, R207). -/
inductive Power where
  | run | waking | dormant
  deriving DecidableEq, Repr

/-- The controller port (11 R198 to R202). -/
structure Port where
  frames : List CmdFrame
  parser : FrameParser
  out : List Byte
  cmdLost : Bool
  noticeLost : Bool
  contentLost : Bool
  power : Power
  deriving DecidableEq, Repr

/-- Stages of a save (11 R205). -/
inductive SaveStage where
  | erase | body | mark
  deriving DecidableEq, Repr

/-- Store states (11 R203): a load carries whether it is the reload after wake, a save its stage, the
body page being written and the image formed at the OK. -/
inductive StoreState where
  | idle
  | loading (reload : Bool)
  | saving (stage : SaveStage) (page : Nat) (image : List Byte)
  deriving DecidableEq, Repr

/-- The serial EEPROM's contents: address and byte, in the canonical form of Machine/Memory.lean. -/
abbrev Memory := List Host.Cell

/-- The store interface and the store it reaches (11 R203). -/
structure StoreUnit where
  fitted : Bool
  state : StoreState
  absent : Bool
  mem : Memory
  tornCount : Nat
  deriving DecidableEq, Repr

/-- Reasons of STORE ABSENT (Table 11-3). -/
inductive AbsentReason where
  | notFitted | noAcknowledge | wrongMark
  deriving DecidableEq, Repr

/-- Outcomes of AWAKE (Table 11-3). -/
inductive AwakeOutcome where
  | reloaded | lostNoReload | lostNoAcknowledge | lostWrongMark
  deriving DecidableEq, Repr

/-- Reasons of FAR WRITE REFUSED (Table 11-4). -/
inductive RefuseReason where
  | set | state | range
  deriving DecidableEq, Repr

/-- The notices of Table 11-3. -/
inductive Notice where
  | keyCode (key : Nat) (kind : KeyKind) (layer : Layer) (code : Byte)
  | keyAction (key : Nat) (kind : KeyKind) (layer : Layer) (action : Action)
  | linkState (st : LinkState) (cause : LinkCause)
  | noCarrier
  | receivedBreak
  | rxOverrun
  | keyOverrun (key : Nat) (kind : KeyKind)
  | holdChange (set : HoldSet)
  | optionChanged (field : Nat) (value : List Byte)
  | farWriteRefused (field : Nat) (reason : RefuseReason) (chars : List Byte)
  | fieldChanged (id : Nat) (writer : Origin)
  | formState (st : FormState) (number : Nat) (cause : FormCause) (origin : Origin)
  | formRejected (id : Nat) (origin : Origin)
  | copyPrinted
  | reportAbandoned (number : Nat) (queued : Nat)
  | bell
  | storeLoaded
  | storeAbsent (reason : AbsentReason)
  | storeFault (stage : SaveStage)
  | awake (outcome : AwakeOutcome)
  deriving DecidableEq, Repr

/-! ### The whole state -/

/-- Input pins that hold a level, and the data pins as the last read strobe drove them. `sense` is what
KSENSE0 to KSENSE9 last read with all rows driven, none from dormant entry until the first event on them
behind it (07 R148; log entry 33). -/
structure Pins where
  resetAsserted : Bool
  paperAbsent : Bool
  leverOpen : Bool
  vsense : Nat
  readData : Byte
  sense : Option (BitVec 10)
  deriving DecidableEq, Repr

/-- The state of the machine. `pending` is the model's queue of waiting commands; `raised` holds the
notices raised on the present event until they are placed in the output FIFO. -/
structure State where
  pending : List Instr
  raised : List Notice
  pins : Pins
  port : Port
  store : StoreUnit
  tor : OptionRecord
  link : Link
  framer : Framer
  dp : Parser
  la : LineAssembler
  pq : PrintQueue
  cg : CharGen
  pe : PrintEngine
  ks : KeyScanner
  kr : KeyRouter
  fu : FormUnit
  deriving DecidableEq, Repr

/-- Faults of the machine. No rule of the spec stops the part, so no meaning raises one; the one
constructor names the access the model would stop at if it ever reached outside the serial store. -/
inductive Fault where
  /-- An access to a store address that does not exist (11 R203: bytes 0 to 8191). No command makes
  one, because every save and load stays within the image. Safe: the machine stops. -/
  | noSuchStoreAddress (addr : Nat)
  deriving DecidableEq, Repr

/-- Refusals of the machine. -/
inductive Refusal where
  /-- Raised by `exec` for a command that has no meaning yet, by its mnemonic; none is left. Safe:
  nothing is claimed of it. -/
  | notModelled (mnemonic : String)
  /-- Raised by a command frame row whose payload has more than 255 bytes, so that no length byte can
  carry its length and no frame of it can be written (11 R200; log entry 24). Safe: the operand is
  none that the port can be given. -/
  | payloadNotWritable (length : Nat)
  deriving DecidableEq, Repr

/-! ### Values after pin reset, block by block -/

/-- An open line after pin reset (01 R22). -/
def emptyLine : OpenLine :=
  ⟨[], 0, false, false, none, []⟩

/-- Line assembler after pin reset (01 R22). -/
def laReset : LineAssembler := ⟨emptyLine, emptyLine, emptyLine, 0⟩

/-- Print queue after pin reset (01 R10). -/
def pqReset : PrintQueue := ⟨[], false, none, []⟩

/-- Character generator after pin reset: all 64 loaded flags clear (02 R37). -/
def cgReset : CharGen := ⟨List.replicate 32 none, List.replicate 32 none⟩

/-- The empty hold cause set. -/
def noHold : HoldSet := ⟨false, false, false, false, false, false⟩

/-- Print engine after pin reset (03 R68). -/
def peReset : PrintEngine where
  engine := .idle
  hold := noHold
  paperPending := false
  leverPending := false
  paperCount := .stopped
  leverCount := .stopped
  history := 0
  lastV := none
  lastT := none
  cadM := 16
  cadS := 0
  forced := true
  feedRun := 0
  entryRow := 0
  directFeed := none
  row := .idle
  bus := .free
  loadWait := false
  scanWait := none
  headLatch := 0
  motorPos := 3
  motorOn := false

/-- Coupler link after pin reset (04 R96). -/
def linkReset : Link where
  state := .down
  role := .none
  rate := none
  connectWait := none
  qualify := none
  holdover := none
  gain := 200
  gainPending := false
  breakSend := .none
  spaceRun := none
  breakPending := false
  errCount := 0
  level := none

/-- Serial framer after pin reset (05 R103, R115). -/
def framerReset : Framer := ⟨.suspended, [], false, [], [], none, false, false⟩

/-- A key after pin reset (07 R150). -/
def keyReset : KeyState := ⟨.up, false, none⟩

/-- Keyboard scanner after pin reset (07 R150). -/
def ksReset : KeyScanner :=
  ⟨List.replicate 80 keyReset, [], 0, none, false, [], false, false, 0⟩

/-- Key router after pin reset: all 320 entries NONE (08 R163). -/
def krReset : KeyRouter := ⟨List.replicate 320 ⟨.nothing, false⟩, false⟩

/-- Form unit after pin reset (09 R188). -/
def fuReset : FormUnit := ⟨List.replicate 8 none, none, none, []⟩

/-- Option record after pin reset: fields 1 to 37 of Table 10-1, an empty answerback, and the ids
marked Yes as the far-writable set (10 R197). -/
def torReset : OptionRecord where
  nums :=
    [0, 2, 7, 1, 1, 1, 0x13, 0x11, 1, 0,
     200, 0, -430, 10, 5, 30, 6, 0, 4, 1,
     3, 900, 12, 80, 176, 2000, 150, 1, 0, 2,
     0, 0, 0, 50, 10, 1, 1]
  answerback := []
  farSet := 0x31703E01E1#40

/-- Controller port after pin reset (11 R208). -/
def portReset : Port := ⟨[], .code, [], false, false, false, .run⟩

/-- Store interface after pin reset with the level sampled at STORESEL; the EEPROM keeps its bytes
(11 R203, R208). -/
def storeReset (storesel : Bool) (mem : Memory) (torn : Nat) : StoreUnit where
  fitted := storesel
  state := if storesel then .loading false else .idle
  absent := !storesel
  mem := mem
  tornCount := torn

/-- The machine right after pin reset, with STORESEL low, paper present, the lever closed, 6.0 V at
VSENSE and an erased store (log entries 6, 7, 8, 12, 33). The output FIFO holds the STORE ABSENT notice,
reason not fitted, that the release raises with STORESEL low (11 R208). -/
def State.reset : State where
  pending := []
  raised := []
  pins := ⟨false, false, false, 60, 0, none⟩
  port := { portReset with out := [0x61, 0x01, 0x00] }
  store := storeReset false [] 0
  tor := torReset
  link := linkReset
  framer := framerReset
  dp := .text
  la := laReset
  pq := pqReset
  cg := cgReset
  pe := peReset
  ks := ksReset
  kr := krReset
  fu := fuReset

end Sys2Proof.Machine
end

