-- ==== Sys2Proof/Machine/Glyphs.lean ====
section
/-! DEFINITION. The character generator (02): cell geometry, glyph selection, and the dot rows of a TEXT
entry. -/

namespace Sys2Proof.Machine

/-- Cell width in dots (Table 2-1). -/
def Font.cw : Font → Nat
  | .std => 12 | .cond => 8

/-- Cell height in rows (Table 2-1). -/
def Font.h : Font → Nat
  | .std => 24 | .cond => 16

/-- Columns per line (Table 2-1). -/
def Font.columns : Font → Nat
  | .std => 32 | .cond => 48

/-- The underline row (Table 2-1). -/
def Font.underlineRow : Font → Nat
  | .std => 22 | .cond => 15

/-- Bytes of a user glyph bitmap (Table 2-1). -/
def Font.bitmapBytes : Font → Nat
  | .std => 36 | .cond => 16

/-- The font that TOR field 18 names (10 Table 10-1). -/
def fontOf (x : Int) : Font := if x = 0 then .std else .cond

/-- A built-in glyph's dot: the free value within the three properties of 02 R27. -/
def builtinDot (f : Font) (code : Byte) (r j : Nat) : Bool :=
  if code = 0x20#8 ∨ j + 1 = f.cw ∨ r + 1 = f.h then false
  else Config.builtinGlyph (f = .cond) code r j

/-- The substitute glyph: a checkerboard of 2 × 2 squares (02 R28). -/
def substituteDot (r j : Nat) : Bool := (r / 2 + j / 2) % 2 = 0

/-- A dot of a bitmap: bits in dot order, most significant bit of a byte first (02 R29). -/
def bitmapDot (f : Font) (bm : List Byte) (r j : Nat) : Bool :=
  let i := r * f.cw + j
  (bm.getD (i / 8) 0).getLsbD (7 - i % 8)

/-- The user glyph table of a font. -/
def CharGen.table (g : CharGen) : Font → List (Option (List Byte))
  | .std => g.std | .cond => g.cond

/-- The user glyph of a code 80h to 9Fh, none while its loaded flag is clear (02 R29). -/
def CharGen.user (g : CharGen) (f : Font) (code : Byte) : Option (List Byte) :=
  (g.table f).getD (code.toNat - 0x80) none

/-- The user glyph of a code in a font set to a bitmap, its loaded flag set (02 R36). -/
def CharGen.load (g : CharGen) (f : Font) (code : Byte) (bm : List Byte) : CharGen :=
  match f with
  | .std => { g with std := g.std.set (code.toNat - 0x80) (some bm) }
  | .cond => { g with cond := g.cond.set (code.toNat - 0x80) (some bm) }

/-- A dot of the glyph selected for a cell (Table 2-2). -/
def glyphDot (g : CharGen) (f : Font) (c : Cell) (r j : Nat) : Bool :=
  if c.error then substituteDot r j
  else if 0x20 ≤ c.code.toNat ∧ c.code.toNat ≤ 0x7E then builtinDot f c.code r j
  else if 0x80 ≤ c.code.toNat ∧ c.code.toNat ≤ 0x9F then
    match g.user f c.code with
    | some bm => bitmapDot f bm r j
    | none => substituteDot r j
  else substituteDot r j

/-- Columns a cell occupies. -/
def Cell.columns (c : Cell) : Nat := if c.double then 2 else 1

/-- Row `q` of a cell, left to right: selection, doubling, underline (02 R30 to R32). -/
def cellRow (g : CharGen) (f : Font) (q : Nat) (c : Cell) : List Bool :=
  (List.range f.cw).flatMap fun j =>
    let d := (c.underline && q == f.underlineRow) || glyphDot g f c q j
    if c.double then [d, d] else [d]

/-- Cell row `q` of an entry at positions 0 to 383, white to the right of the last cell (02 R32). -/
def composeRow (g : CharGen) (f : Font) (cells : List Cell) (q : Nat) : List Bool :=
  let row := cells.flatMap (cellRow g f q)
  (row ++ List.replicate (384 - row.length) false).take 384

/-- Dots from a list, dot 0 first. -/
def dotsOfBools (bs : List Bool) : Dots :=
  BitVec.ofNat 384 (bs.foldr (fun b n => 2 * n + (if b then 1 else 0)) 0)

/-- The dots of printed row `q` in head order, turned through 180° for a rotated entry
(02 R32, R33). -/
def printedRow (g : CharGen) (f : Font) (cells : List Cell) (rotated : Bool) (q : Nat) : Dots :=
  if rotated then dotsOfBools (composeRow g f cells (f.h - 1 - q)).reverse
  else dotsOfBools (composeRow g f cells q)

/-- The black dots of a row in head order (03 R54). -/
def blackDots (d : Dots) : List Nat := (List.range 384).filter fun i => d.getLsbD i

/-- The row whose black dots are those listed. -/
def dotsOf (l : List Nat) : Dots := l.foldl (fun d i => d ||| (1#384 <<< i)) 0

/-- Dot rows that an entry takes: printed and spacing rows, or feed rows (02 R34). -/
def EntryBody.rows : EntryBody → Nat
  | .text f _ _ spacing => f.h + spacing
  | .feed n => n

end Sys2Proof.Machine
end

