-- ==== Sys2Proof/Machine/Arith.lean ====
section
/-! DEFINITION. Integer arithmetic of 00 section 1.7 (rounding half up, clamping), byte orders, and
numbers written as ASCII digits. -/

namespace Sys2Proof.Machine

/-- "Round": half up; `b` is positive. Division on Int rounds down for a positive divisor. -/
def roundDiv (a b : Int) : Int := (2 * a + b) / (2 * b)

/-- "Clamp to lo..hi". -/
def clampInt (lo hi x : Int) : Int := if x < lo then lo else if hi < x then hi else x

/-- "Rounded down to a multiple of 5". -/
def floor5 (x : Int) : Int := x - x % 5

/-- "ceil" of a quotient of naturals, `b` positive. -/
def ceilDiv (a b : Nat) : Nat := (a + b - 1) / b

/-- A number as two bytes, most significant first, two's complement (10 R191, 11 R202). -/
def bytes16 (x : Int) : List Byte :=
  let w := BitVec.ofInt 16 x
  [(w >>> 8).setWidth 8, w.setWidth 8]

/-- The signed number of two bytes, most significant first (10 R191). -/
def signed16 (hi lo : Byte) : Int := (hi ++ lo : BitVec 16).toInt

/-- The unsigned number of two bytes, most significant first. -/
def unsigned16 (hi lo : Byte) : Nat := (hi ++ lo : BitVec 16).toNat

/-- The ASCII digit of `d`, for `d` below 10. -/
def digitCode (d : Nat) : Byte := byteOf (0x30 + d)

/-- The code is an ASCII digit. -/
def isDigit (b : Byte) : Bool := 0x30 ≤ b.toNat && b.toNat ≤ 0x39

/-- The value of an ASCII digit. -/
def digitVal (b : Byte) : Nat := b.toNat - 0x30

/-- The digits of `n` written before `acc`; `fuel` bounds their count. -/
def decimalAux : (fuel : Nat) → (n : Nat) → (acc : List Byte) → List Byte
  | 0, _, acc => acc
  | fuel + 1, n, acc =>
    if n < 10 then digitCode n :: acc else decimalAux fuel (n / 10) (digitCode (n % 10) :: acc)

/-- `n` in decimal digits with no leading zero, "0" for zero (06 R129). -/
def decimal (n : Nat) : List Byte := decimalAux (n + 1) n []

/-- `n` modulo 100 as two digits. -/
def twoDigits (n : Nat) : List Byte := [digitCode (n / 10 % 10), digitCode (n % 10)]

/-- Cents as whole part, point and two digits (06 R129). -/
def moneyText (cents : Nat) : List Byte := decimal (cents / 100) ++ 0x2E#8 :: twoDigits (cents % 100)

/-- The number a list of digits writes. -/
def digitsVal (ds : List Byte) : Nat := ds.foldl (fun n d => 10 * n + digitVal d) 0

/-- The number an O value writes: an optional "-" and digits (06 R120). -/
def signedDigits : List Byte → Int
  | [] => 0
  | c :: cs => if c = 0x2D#8 then -(digitsVal cs : Int) else (digitsVal (c :: cs) : Int)

end Sys2Proof.Machine
end

