-- ==== Sys2Proof/Machine/Operands.lean ====
section
/-! DEFINITION. The encodings of operands and results: Tables 8-1, 9-2, 11-1, 11-3 and 11-4, keymap entry
bytes, and the bytes of a notice frame. -/

namespace Sys2Proof.Machine

/-- Response codes (Table 11-1). -/
inductive RespCode where
  | ok | full | state | range | busy | unknown | absent | reject
  deriving DecidableEq, Repr

/-- Byte of a response code (Table 11-1). -/
def RespCode.byte : RespCode → Byte
  | .ok => 0x00 | .full => 0x01 | .state => 0x02 | .range => 0x03
  | .busy => 0x04 | .unknown => 0x05 | .absent => 0x06 | .reject => 0x07

/-- A response: its code and payload. -/
structure Resp where
  code : RespCode
  payload : List Byte
  deriving DecidableEq, Repr

/-- A response without a payload. -/
def Resp.bare (c : RespCode) : Resp := ⟨c, []⟩

/-- The bytes of a response frame (11 R202). -/
def Resp.bytes (r : Resp) : List Byte := r.code.byte :: byteOf r.payload.length :: r.payload

/-- Link state (Table 11-4). -/
def LinkState.byte : LinkState → Byte
  | .down => 0 | .listen => 1 | .answering => 2 | .qualify => 3 | .online => 4 | .fade => 5

/-- LINK STATE cause (Table 11-4). -/
def LinkCause.byte : LinkCause → Byte
  | .command => 0 | .key => 1 | .carrier => 2 | .timeout => 3 | .disconnectSpace => 4

/-- Engine state (Table 11-4). -/
def EngineState.byte : EngineState → Byte
  | .dormant => 0 | .waking => 1 | .idle => 2 | .printing => 3 | .feeding => 4 | .held => 5

/-- Form state (Table 11-4). -/
def FormState.byte : FormState → Byte
  | .closed => 0 | .opened => 1 | .pending => 2 | .reporting => 3

/-- FORM STATE cause (Table 11-4). -/
def FormCause.byte : FormCause → Byte
  | .opened => 0 | .pending => 1 | .reporting => 2 | .noReport => 3 | .reportSent => 4
  | .abandoned => 5 | .cancelled => 6 | .refusedState => 7 | .refusedAbsent => 8

/-- Origin or writer (Table 11-4). -/
def Origin.byte : Origin → Byte
  | .nobody => 0 | .key => 1 | .far => 2 | .ctl => 3

/-- Key event kind (Table 11-4). -/
def KeyKind.byte : KeyKind → Byte
  | .make => 0 | .repeated => 1

/-- Layer (Table 11-4), also its place in the keymap. -/
def Layer.num : Layer → Nat
  | .base => 0 | .shift => 1 | .ctrl => 2 | .func => 3

/-- FAR WRITE REFUSED reason (Table 11-4). -/
def RefuseReason.byte : RefuseReason → Byte
  | .set => 0 | .state => 1 | .range => 2

/-- STORE ABSENT reason (Table 11-3). -/
def AbsentReason.byte : AbsentReason → Byte
  | .notFitted => 0 | .noAcknowledge => 1 | .wrongMark => 2

/-- STORE FAULT stage (Table 11-3). -/
def SaveStage.byte : SaveStage → Byte
  | .erase => 0 | .body => 1 | .mark => 2

/-- AWAKE outcome (Table 11-3). -/
def AwakeOutcome.byte : AwakeOutcome → Byte
  | .reloaded => 0 | .lostNoReload => 1 | .lostNoAcknowledge => 2 | .lostWrongMark => 3

/-- Store state (Table 11-4). -/
def StoreState.byte : StoreState → Byte
  | .idle => 0 | .loading _ => 1 | .saving _ _ _ => 2

/-- Field kind (Table 9-2). -/
def FieldKind.byte : FieldKind → Byte
  | .text => 0 | .qty => 1 | .price => 2 | .ext => 3 | .total => 4 | .tax => 5 | .grand => 6

/-- Field kind of a byte (Table 9-2). -/
def FieldKind.ofNat? : Nat → Option FieldKind
  | 0 => some .text | 1 => some .qty | 2 => some .price | 3 => some .ext
  | 4 => some .total | 5 => some .tax | 6 => some .grand | _ => none

/-- Value status of GET FIELD (Table 11-2). -/
def Value.statusByte : Value → Byte
  | .empty => 0 | .text _ => 1 | .num _ => 1 | .overflow => 2

/-- Action number (Table 8-1). -/
def Action.num : Action → Nat
  | .breakKey => 0x01 | .feedKey => 0x02 | .orig => 0x03 | .ans => 0x04 | .drop => 0x05
  | .fieldNext => 0x06 | .fieldBack => 0x07 | .formEnter => 0x08 | .formCancel => 0x09
  | .openForm n => 0x0B + n
  | .localKey => 0x14 | .shift => 0x15 | .ctrl => 0x16 | .func => 0x17

/-- The action of a number (Table 8-1): 0Ah and 0Bh are none, 0Ch to 13h are FORM 1 to FORM 8. -/
def Action.ofNat? (n : Nat) : Option Action :=
  match n with
  | 0x01 => some .breakKey | 0x02 => some .feedKey | 0x03 => some .orig | 0x04 => some .ans
  | 0x05 => some .drop | 0x06 => some .fieldNext | 0x07 => some .fieldBack
  | 0x08 => some .formEnter | 0x09 => some .formCancel
  | 0x14 => some .localKey | 0x15 => some .shift | 0x16 => some .ctrl | 0x17 => some .func
  | n => if 0x0C ≤ n ∧ n ≤ 0x13 then some (.openForm (n - 0x0B)) else none

/-- The kind byte and value byte of a keymap entry (08 R162): 80h is the repeat flag, and NONE
stores 00h. -/
def KeyEntry.bytes (e : KeyEntry) : Byte × Byte :=
  let r : Nat := if e.rep then 0x80 else 0
  match e.kind with
  | .nothing => (byteOf r, 0)
  | .code b => (byteOf (r + 1), b)
  | .action a => (byteOf (r + 2), byteOf a.num)

/-- The keymap entry of a kind byte and a value byte, none where LOAD KEYMAP refuses them
(08 R162). -/
def KeyEntry.ofBytes? (kind value : Byte) : Option KeyEntry :=
  let rep := 0x80 ≤ kind.toNat
  match kind.toNat % 0x80 with
  | 0 => some ⟨.nothing, rep⟩
  | 1 => some ⟨.code value, rep⟩
  | 2 => (Action.ofNat? value.toNat).map fun a => ⟨.action a, rep⟩
  | _ => none

/-- Hold cause set (Table 11-4). -/
def HoldSet.byte (h : HoldSet) : Byte :=
  byteOf ((if h.hot then 1 else 0) + (if h.lowSupply then 2 else 0) + (if h.paperOut then 4 else 0)
    + (if h.leverUp then 8 else 0) + (if h.linkTraining then 16 else 0)
    + (if h.stopped then 32 else 0))

/-- Code and payload of a notice (Table 11-3). -/
def Notice.parts : Notice → Byte × List Byte
  | .keyCode k kd l c => (0x40, [byteOf k, kd.byte, byteOf l.num, c])
  | .keyAction k kd l a => (0x41, [byteOf k, kd.byte, byteOf l.num, byteOf a.num])
  | .linkState st c => (0x44, [st.byte, c.byte])
  | .noCarrier => (0x45, [])
  | .receivedBreak => (0x46, [])
  | .rxOverrun => (0x48, [])
  | .keyOverrun k kd => (0x49, [byteOf k, kd.byte])
  | .holdChange h => (0x4C, [h.byte])
  | .optionChanged f v => (0x50, byteOf f :: v)
  | .farWriteRefused f r cs => (0x51, byteOf f :: r.byte :: cs)
  | .fieldChanged i w => (0x54, [byteOf i, w.byte])
  | .formState st n c o => (0x58, [st.byte, byteOf n, c.byte, o.byte])
  | .formRejected i o => (0x59, [byteOf i, o.byte])
  | .copyPrinted => (0x5A, [])
  | .reportAbandoned n q => (0x5B, byteOf n :: bytes16 q)
  | .bell => (0x5C, [])
  | .storeLoaded => (0x60, [])
  | .storeAbsent r => (0x61, [r.byte])
  | .storeFault st => (0x62, [st.byte])
  | .awake o => (0x64, [o.byte])

/-- The bytes of a notice frame (11 R202). -/
def Notice.bytes (n : Notice) : List Byte :=
  n.parts.1 :: byteOf n.parts.2.length :: n.parts.2

end Sys2Proof.Machine
end

