-- ==== Sys2Proof/Machine/Options.lean ====
section
/-! DEFINITION. The option record by itself (10): classes and ranges of Table 10-1, bringing a value into
range, the forms in which a value is carried, and the TOR image of Table 11-7. -/

namespace Sys2Proof.Machine

/-- The class of a field with its range (10 R189, R190). -/
inductive OptClass where
  | numeric (lo hi : Int)
  | enumerated (lo hi : Int)
  | text
  | set
  deriving DecidableEq, Repr

/-- Class and range of field `n` (Table 10-1); none for an id outside 1 to 39. -/
def optClass : Nat → Option OptClass
  | 1 => some (.enumerated 0 1)
  | 2 => some (.numeric 0 2)
  | 3 => some (.enumerated 7 8)
  | 4 => some (.enumerated 0 3)
  | 5 => some (.enumerated 1 2)
  | 6 => some (.numeric 0 1)
  | 7 => some (.numeric 0 255)
  | 8 => some (.numeric 0 255)
  | 9 => some (.numeric 0 1)
  | 10 => some (.enumerated 0 1)
  | 11 => some (.numeric 0 420)
  | 12 => some (.enumerated 0 1)
  | 13 => some (.numeric (-480) (-300))
  | 14 => some (.numeric 2 25)
  | 15 => some (.numeric 1 20)
  | 16 => some (.numeric 5 60)
  | 17 => some (.numeric 0 15)
  | 18 => some (.enumerated 0 1)
  | 19 => some (.numeric 0 24)
  | 20 => some (.numeric 0 1)
  | 21 => some (.numeric 0 30)
  | 22 => some (.numeric 200 2000)
  | 23 => some (.numeric 0 30)
  | 24 => some (.numeric 50 100)
  | 25 => some (.numeric 150 250)
  | 26 => some (.numeric 500 4000)
  | 27 => some (.numeric 0 500)
  | 28 => some (.numeric 0 1)
  | 29 => some (.enumerated 0 1)
  | 30 => some (.numeric 1 3)
  | 31 => some (.numeric 0 2500)
  | 32 => some (.enumerated 0 2)
  | 33 => some (.numeric 0 1)
  | 34 => some (.numeric 25 100)
  | 35 => some (.numeric 5 20)
  | 36 => some (.numeric 0 1)
  | 37 => some (.numeric 0 1)
  | 38 => some .text
  | 39 => some .set
  | _ => none

/-- Field `n` (1 to 37) as a number. -/
def OptionRecord.get (t : OptionRecord) (n : Nat) : Int := t.nums.getD (n - 1) 0

/-- The record with field `n` (1 to 37) holding `x`. -/
def OptionRecord.put (t : OptionRecord) (n : Nat) (x : Int) : OptionRecord :=
  { t with nums := t.nums.set (n - 1) x }

/-- Field `n` of the option record as it stands. -/
def State.opt (s : State) (n : Nat) : Int := s.tor.get n

/-- A value brought into the range of field `n`, none where an enumerated value is refused
(10 R190). -/
def bringIntoRange (n : Nat) (x : Int) : Option Int :=
  match optClass n with
  | some (.numeric lo hi) =>
    let y := clampInt lo hi x
    some (if n = 11 then floor5 y else y)
  | some (.enumerated lo hi) => if lo ≤ x ∧ x ≤ hi then some x else none
  | _ => none

/-- A code of the answerback (10 R194). -/
def answerbackCode (b : Byte) : Bool := 0x20 ≤ b.toNat && b.toNat ≤ 0x7E

/-- A string cut to its first 20 codes (10 R194). -/
def cutAnswerback (bs : List Byte) : List Byte := bs.take 20

/-- Field `n` stands in the far-writable set (10 R193). -/
def OptionRecord.farWritable (t : OptionRecord) (n : Nat) : Bool := t.farSet.getLsbD (n - 1)

/-- The set as 5 bytes, byte 0 first (10 R193). -/
def setBytes (w : BitVec 40) : List Byte := (List.range 5).map fun i => (w >>> (8 * i)).setWidth 8

/-- The set of 5 bytes (10 R193). -/
def setOfBytes (bs : List Byte) : BitVec 40 :=
  (List.range 5).foldl (fun w i => w ||| ((bs.getD i 0).setWidth 40 <<< (8 * i))) 0#40

/-- A set that names neither field 39 nor field 40 (10 R193). -/
def setWithin (w : BitVec 40) : Bool := !(w.getLsbD 38 || w.getLsbD 39)

/-- The value of field `n` in the form of SET OPTION's value (10 R191, R192). -/
def OptionRecord.valueBytes (t : OptionRecord) (n : Nat) : List Byte :=
  if n = 38 then t.answerback
  else if n = 39 then setBytes t.farSet
  else bytes16 (t.get n)

/-- Every field lies within its range: fields 1 to 37 by Table 10-1 with field 11 a multiple of 5,
the answerback at most 20 codes of 20h to 7Eh, the set without fields 39 and 40 (10 R189). -/
def OptionRecord.inRange (t : OptionRecord) : Bool :=
  t.nums.length == 37
    && ((List.range 37).all fun i => bringIntoRange (i + 1) (t.get (i + 1)) == some (t.get (i + 1)))
    && t.answerback.length ≤ 20 && t.answerback.all answerbackCode && setWithin t.farSet

/-! ### The TOR image (Table 11-7) -/

/-- Fields carried as one bit each in bytes 0 and 1 of the TOR image. -/
def torBits0 : List Nat := [1, 6, 9, 10, 12, 18, 20, 28]
/-- See `torBits0`. -/
def torBits1 : List Nat := [29, 33, 36, 37]
/-- Fields carried as one byte each at offsets 2 to 20. -/
def torBytes : List Nat :=
  [2, 3, 4, 5, 7, 8, 14, 15, 16, 17, 19, 21, 23, 24, 25, 30, 32, 34, 35]
/-- Fields carried as two bytes each at offsets 23 to 30. -/
def torWords : List Nat := [22, 26, 27, 31]

/-- A byte whose bit i is set when the i-th field of the list is 1. -/
def bitsByte (t : OptionRecord) (fs : List Nat) : Byte :=
  byteOf (fs.foldr (fun n acc => 2 * acc + (if t.get n = 1 then 1 else 0)) 0)

/-- The 64 bytes of the TOR image (Table 11-7). -/
def encodeTor (t : OptionRecord) : List Byte :=
  [bitsByte t torBits0, bitsByte t torBits1]
    ++ torBytes.map (fun n => byteOf (t.get n).toNat)
    ++ [byteOf (t.get 11 / 5).toNat, byteOf (t.get 13 + 480).toNat]
    ++ torWords.flatMap (fun n => bytes16 (t.get n))
    ++ (t.answerback.take 20 ++ List.replicate (20 - t.answerback.length) 0)
    ++ setBytes t.farSet
    ++ List.replicate 8 0

/-- The value of a field as the TOR image gives it, before it is brought into range; a word of two bytes
reads as unsigned (DESIGN CHOICE, log entry 39). -/
def torImageValue (img : List Byte) (n : Nat) : Int :=
  let at' (i : Nat) : Byte := img.getD i 0
  if n = 11 then 5 * ((at' 21).toNat : Int)
  else if n = 13 then ((at' 22).toNat : Int) - 480
  else if torBits0.contains n then (if (at' 0).getLsbD (torBits0.idxOf n) then 1 else 0)
  else if torBits1.contains n then (if (at' 1).getLsbD (torBits1.idxOf n) then 1 else 0)
  else if torWords.contains n then
    let i := 23 + 2 * torWords.idxOf n
    (unsigned16 (at' i) (at' (i + 1)) : Int)
  else ((at' (2 + torBytes.idxOf n)).toNat : Int)

/-- A value read from the image brought into range; an enumerated value outside its range takes the
field's reset value (10 R197). -/
def loadedValue (n : Nat) (x : Int) : Int := (bringIntoRange n x).getD (torReset.get n)

/-- The record a TOR image gives (10 R197): the answerback ends at the first code outside 20h to
7Eh (the first 00h among them), and the bits for fields 39 and 40 are cleared. -/
def decodeTor (img : List Byte) : OptionRecord where
  nums := (List.range 37).map fun i => loadedValue (i + 1) (torImageValue img (i + 1))
  answerback := ((img.drop 31).take 20).takeWhile answerbackCode
  farSet := setOfBytes ((img.drop 51).take 5) &&& 0x3FFFFFFFFF#40

end Sys2Proof.Machine
end

