-- ==== Sys2Proof/Machine/FormValues.lean ====
section
/-! DEFINITION. Form data without events (09): template images, reading and writing of field values, money
arithmetic, rendering of a FORM block, and the report text. -/

namespace Sys2Proof.Machine

/-! ### Values (09 R129 of 06, R173, R176) -/

/-- The value text of a field's value (06 R129). -/
def valueText (k : FieldKind) : Value → List Byte
  | .empty => []
  | .overflow => [0x2A]
  | .text cs => cs
  | .num n => if k = .qty then decimal n else moneyText n

/-- Digits before the point of a price string. -/
def wholeDigits (bs : List Byte) : List Byte := bs.takeWhile (· ≠ 0x2E#8)

/-- What follows the point of a price string, empty where it has none. -/
def fractionDigits (bs : List Byte) : List Byte := (bs.dropWhile (· ≠ 0x2E#8)).tail

/-- The cents a price string reads as: whole units, tenths and hundredths (09 R173). -/
def priceCents (bs : List Byte) : Nat :=
  100 * digitsVal (wholeDigits bs) + digitsVal ((fractionDigits bs ++ [0x30, 0x30]).take 2)

/-- The reading of the edit string for a kind (09 R173). -/
def readEdit (k : FieldKind) (bs : List Byte) : Value :=
  match k with
  | .text => if bs.isEmpty then .empty else .text bs
  | .qty => if bs.isEmpty then .empty else .num (digitsVal bs)
  | .price => if bs.any isDigit then .num (priceCents bs) else .empty
  | _ => .empty

/-- A code a TEXT value may hold (09 R174, R176). -/
def textCode (b : Byte) : Bool := 0x20 ≤ b.toNat && b.toNat ≠ 0x7F && b ≠ 0x3B#8

/-- A price string: 0 to 5 digits, then optionally a point and 0 to 2 digits, with a digit in all
(09 R176). -/
def priceForm (bs : List Byte) : Bool :=
  (wholeDigits bs).length ≤ 5 && (wholeDigits bs).all isDigit
    && (fractionDigits bs).length ≤ 2 && (fractionDigits bs).all isDigit && bs.any isDigit

/-- A written value read for a field's kind and width; none where it does not parse (09 R176). -/
def parseWritten (k : FieldKind) (width : Nat) (bs : List Byte) : Option Value :=
  match k with
  | .text => if bs.length ≤ width ∧ bs.all textCode then some (.text bs) else none
  | .qty =>
    if bs.isEmpty then some .empty
    else if bs.length ≤ 5 ∧ bs.all isDigit then some (.num (digitsVal bs)) else none
  | .price =>
    if bs.isEmpty then some .empty
    else if priceForm bs then some (.num (priceCents bs)) else none
  | _ => none

/-- A kind that is entered, not computed (09 R164). -/
def FieldKind.entered : FieldKind → Bool
  | .text => true | .qty => true | .price => true | _ => false

/-- The kind takes a code at the end of the edit string (Table 9-3). -/
def acceptsCode (f : Field) (edit : List Byte) (code : Byte) : Bool :=
  if code = 0x08#8 then !edit.isEmpty
  else
    match f.kind with
    | .text => textCode code && decide (edit.length < f.width)
    | .qty => isDigit code && decide (edit.length < 5)
    | .price =>
      if code = 0x2E#8 then !edit.contains 0x2E#8
      else isDigit code
        && (if edit.contains 0x2E#8 then decide ((fractionDigits edit).length < 2)
            else decide (edit.length < 5))
    | _ => false

/-! ### Template images (09 R164, R165, R167) -/

/-- `n` bytes from the front, none where there are fewer. -/
def takeBytes (n : Nat) (bs : List Byte) : Option (List Byte × List Byte) :=
  if n ≤ bs.length then some (bs.take n, bs.drop n) else none

/-- The text lines of an image (Table 9-1). -/
def decodeLines : (n : Nat) → List Byte → Option (List (List Byte) × List Byte)
  | 0, bs => some ([], bs)
  | n + 1, bs =>
    match bs with
    | [] => none
    | len :: rest =>
      match takeBytes len.toNat rest with
      | none => none
      | some (ln, rest1) =>
        match decodeLines n rest1 with
        | none => none
        | some (lns, rest2) => some (ln :: lns, rest2)

/-- One field record of an image (Table 9-2); a length byte, a kind, a flags byte or a default that
breaks its form gives none. -/
def decodeField (bs : List Byte) : Option (Field × List Byte) :=
  match bs with
  | id :: line :: col :: width :: kind :: flags :: q :: p :: lablen :: rest =>
    match FieldKind.ofNat? kind.toNat, takeBytes lablen.toNat rest with
    | some k, some (label, dlen :: rest1) =>
      if 3 < flags.toNat ∨ 12 < lablen.toNat then none
      else
        let mk (d : Option Value) : Field :=
          { id := id.toNat, line := line.toNat, col := col.toNat, width := width.toNat, kind := k
            required := flags.getLsbD 0, protect := flags.getLsbD 1
            qref := q.toNat, pref := p.toNat, label := label, default := d }
        if dlen = 0xFF#8 then some (mk none, rest1)
        else if 32 < dlen.toNat then none
        else
          match takeBytes dlen.toNat rest1 with
          | none => none
          | some (d, rest2) =>
            match parseWritten k width.toNat d with
            | none => none
            | some v => some (mk (some v), rest2)
    | _, _ => none
  | _ => none

/-- The field records of an image. -/
def decodeFields : (n : Nat) → List Byte → Option (List Field × List Byte)
  | 0, bs => some ([], bs)
  | n + 1, bs =>
    match decodeField bs with
    | none => none
    | some (f, rest) =>
      match decodeFields n rest with
      | none => none
      | some (fs, rest1) => some (f :: fs, rest1)

/-- A field put among fields by rising id (09 R164: ordered by id). -/
def insertField (f : Field) : List Field → List Field
  | [] => [f]
  | g :: gs => if f.id < g.id then f :: g :: gs else g :: insertField f gs

/-- The two windows share a column of one line (09 R164). -/
def windowsClash (f g : Field) : Bool :=
  f.line == g.line && decide (f.col < g.col + g.width) && decide (g.col < f.col + f.width)

/-- No two fields share an id, or a column of a line (09 R164). -/
def fieldsApart : List Field → Bool
  | [] => true
  | f :: fs => fs.all (fun g => f.id != g.id && !windowsClash f g) && fieldsApart fs

/-- A field keeps R164 by itself within a template. -/
def fieldValid (font : Font) (nLines : Nat) (fields : List Field) (f : Field) : Bool :=
  decide (1 ≤ f.id ∧ f.id ≤ 16) && decide (f.line < nLines)
    && decide (1 ≤ f.width ∧ f.width ≤ 32) && decide (f.col + f.width ≤ font.columns)
    && f.label.all (fun b => 0x20 ≤ b.toNat && b.toNat ≤ 0x7E)
    && (if f.kind = .ext then
          fields.any (fun g => g.id == f.qref && g.kind == .qty)
            && fields.any (fun g => g.id == f.pref && g.kind == .price)
        else f.qref == 0 && f.pref == 0)

/-- The template keeps R164 (09 R167 (2)). -/
def templateValid (font : Font) (lines : List (List Byte)) (fields : List Field) : Bool :=
  lines.all (fun ln => ln.length ≤ font.columns)
    && fields.all (fieldValid font lines.length fields)
    && fieldsApart fields
    && decide (fields.countP (fun f => f.kind == .total) ≤ 1)
    && decide (fields.countP (fun f => f.kind == .tax) ≤ 1)
    && decide (fields.countP (fun f => f.kind == .grand) ≤ 1)

/-- The template at the front of some bytes, with the bytes behind it; none where the image does not
decode or breaks R164 (09 R165, R167). -/
def decodePrefix (bs : List Byte) : Option (Template × List Byte) :=
  match bs with
  | fontByte :: nLines :: nFields :: rest =>
    if 1 < fontByte.toNat ∨ nLines.toNat = 0 ∨ 12 < nLines.toNat ∨ 16 < nFields.toNat then none
    else
      match decodeLines nLines.toNat rest with
      | none => none
      | some (lines, rest1) =>
        match decodeFields nFields.toNat rest1 with
        | none => none
        | some (fields, rest2) =>
          let font := if fontByte = 0 then Font.std else Font.cond
          let sorted := fields.foldr insertField []
          if templateValid font lines sorted then
            some (⟨font, lines, sorted, bs.take (bs.length - rest2.length)⟩, rest2)
          else none
  | _ => none

/-- A LOAD FORM image: it ends exactly at the last byte of its last field record (09 R165). -/
def decodeImage (bs : List Byte) : Option Template :=
  match decodePrefix bs with
  | some (t, []) => some t
  | _ => none

/-- A slot image of the store: FFh first is an empty slot, an image that fails leaves the slot empty
(09 R188); what stands behind the image is not read (log entry 22). -/
def decodeSlot (bs : List Byte) : Option Template :=
  if bs.headD 0xFF = 0xFF#8 then none else (decodePrefix bs).map (·.1)

/-- An enterable field (09 R164). -/
def Field.enterable (f : Field) : Bool := f.kind.entered && !f.protect

/-- The enterable fields in id order. -/
def Template.enterable (t : Template) : List Field := t.fields.filter Field.enterable

/-- The field of an id. -/
def Template.field? (t : Template) (id : Nat) : Option Field := t.fields.find? (fun f => f.id == id)

/-! ### Money (09 R179, R180) -/

/-- The largest value of EXT and TOTAL, in cents. -/
def moneyLimit : Nat := 999999999

/-- The value of a field id among field values. -/
def valueOf (vals : List FieldVal) (id : Nat) : Value :=
  match vals.find? (fun v => v.id == id) with
  | some v => v.value
  | none => .empty

/-- The extension of a quantity and a price (09 R179). -/
def extension (q p : Value) : Value :=
  match q, p with
  | .num a, .num b => if moneyLimit < a * b then .overflow else .num (a * b)
  | _, _ => .empty

/-- TOTAL of the EXT values: overflow if one overflows or the sum is too large (09 R180). -/
def totalOf (exts : List Value) : Value :=
  let sum := exts.foldl (fun n v => match v with | .num a => n + a | _ => n) 0
  if exts.contains .overflow || decide (moneyLimit < sum) then .overflow else .num sum

/-- TAX of a TOTAL at a rate in basis points (09 R180). -/
def taxOf (total : Value) (rate : Int) : Value :=
  match total with
  | .num n => .num (roundDiv (n * rate) 10000).toNat
  | v => v

/-- GRAND of a TOTAL and a TAX (09 R180). -/
def grandOf (total tax : Value) : Value :=
  match total, tax with
  | .num a, .num b => .num (a + b)
  | _, _ => .overflow

/-- The field values with every EXT computed again (09 R179). -/
def withExtensions (t : Template) (vals : List FieldVal) : List FieldVal :=
  vals.map fun v =>
    match t.field? v.id with
    | some f => if f.kind = .ext then { v with value := extension (valueOf vals f.qref) (valueOf vals f.pref) } else v
    | none => v

/-- The EXT values of a form. -/
def extValues (t : Template) (vals : List FieldVal) : List Value :=
  (t.fields.filter fun f => f.kind == .ext).map fun f => valueOf vals f.id

/-- The computed fields and the totals computed again (09 R179, R180). -/
def recompute (t : Template) (rate : Int) (i : FormInst) : FormInst :=
  let vals := withExtensions t i.vals
  let total := totalOf (extValues t vals)
  let tax := taxOf total rate
  let grand := grandOf total tax
  { i with
    total := total, tax := tax, grand := grand
    vals := vals.map fun v =>
      match (t.field? v.id).map Field.kind with
      | some .total => { v with value := total }
      | some .tax => { v with value := tax }
      | some .grand => { v with value := grand }
      | _ => v }

/-- The instance with a field's value and last writer replaced. -/
def FormInst.putValue (i : FormInst) (id : Nat) (v : Value) (w : Origin) : FormInst :=
  { i with vals := i.vals.map fun x => if x.id = id then { x with value := v, writer := w } else x }

/-! ### Rendering (09 R182, R183) and the report (09 R185) -/

/-- A list filled with spaces on the right to `w`. -/
def padRight (w : Nat) (bs : List Byte) : List Byte := (bs ++ List.replicate (w - bs.length) 0x20).take w

/-- The printed form of a value in a window of width `w` (09 R182 (2)). -/
def printedForm (k : FieldKind) (w : Nat) (v : Value) : List Byte :=
  match v with
  | .empty => List.replicate w 0x20
  | .text cs => padRight w cs
  | v =>
    let t := valueText k v
    if w < t.length then List.replicate w 0x2A else List.replicate (w - t.length) 0x20 ++ t

/-- Codes written over a line from a column on. -/
def overlay (col : Nat) (new old : List Byte) : List Byte :=
  old.take col ++ new ++ old.drop (col + new.length)

/-- The codes of a template line with its windows filled (09 R182). -/
def renderLine (t : Template) (vals : List FieldVal) (n : Nat) : List Byte :=
  let fs := t.fields.filter fun f => f.line == n
  let fixed := t.lines.getD n []
  let width := fs.foldl (fun m f => max m (f.col + f.width)) fixed.length
  fs.foldl (fun l f => overlay f.col (printedForm f.kind f.width (valueOf vals f.id)) l)
    (fixed ++ List.replicate (width - fixed.length) 0x20)

/-- The TEXT entry of a template line (09 R182, R183). -/
def lineEntry (t : Template) (vals : List FieldVal) (spacing : Nat) (rotated : Bool) (n : Nat) : Entry :=
  ⟨.form,
    .text t.font ((renderLine t vals n).map fun c => ⟨c, false, false, false⟩) rotated spacing,
    false, false⟩

/-- One copy: its lines in the order of the orientation, then the tear gap (09 R183). -/
def copyEntries (t : Template) (vals : List FieldVal) (spacing : Nat) (rotated : Bool) : List Entry :=
  let order := List.range t.lines.length
  (if rotated then order.reverse else order).map (lineEntry t vals spacing rotated)
    ++ [⟨.form, .feed Config.tearRows, false, false⟩]

/-- The last entry of a list marked last of block. -/
def markLast : List Entry → List Entry
  | [] => []
  | [e] => [{ e with lastOfBlock := true }]
  | e :: es => e :: markLast es

/-- The FORM block (09 R183). -/
def formBlock (t : Template) (vals : List FieldVal) (spacing copies : Nat) (rotated : Bool) :
    List Entry :=
  markLast (List.replicate copies (copyEntries t vals spacing rotated)).flatten

/-- The report (09 R185). -/
def reportText (t : Template) (number : Nat) (vals : List FieldVal) : List Byte :=
  [0x1C, 0x72, digitCode number]
    ++ t.fields.flatMap (fun f =>
        match valueOf vals f.id with
        | .empty => []
        | v => twoDigits f.id ++ 0x3D#8 :: valueText f.kind v ++ [0x3B])
    ++ [0x0D]

end Sys2Proof.Machine
end

