-- ==== Sys2Proof/Machine/Flags.lean ====
section
/-! DEFINITION. Flags and derived signals: the hold cause set, the status byte, IRQ, parity and error
kinds, and the pins computed from the state (STB, motor phases, step rate, transmitter, SPK). -/

namespace Sys2Proof.Machine

/-! ### Hold cause set (03 R40) -/

/-- The cause is in the set. -/
def HoldSet.has (h : HoldSet) : HoldCause → Bool
  | .hot => h.hot | .lowSupply => h.lowSupply | .paperOut => h.paperOut
  | .leverUp => h.leverUp | .linkTraining => h.linkTraining | .stopped => h.stopped

/-- The set with the cause in it (`b` true) or out of it. -/
def HoldSet.put (h : HoldSet) (b : Bool) : HoldCause → HoldSet
  | .hot => { h with hot := b } | .lowSupply => { h with lowSupply := b }
  | .paperOut => { h with paperOut := b } | .leverUp => { h with leverUp := b }
  | .linkTraining => { h with linkTraining := b } | .stopped => { h with stopped := b }

/-- The set is empty. -/
def HoldSet.isEmpty (h : HoldSet) : Bool :=
  !(h.hot || h.lowSupply || h.paperOut || h.leverUp || h.linkTraining || h.stopped)

/-- The set holds no cause other than PAPER OUT and STOPPED (03 R65). -/
def HoldSet.feedAllowed (h : HoldSet) : Bool :=
  !(h.hot || h.lowSupply || h.leverUp || h.linkTraining)

/-! ### Port signals (11) -/

/-- Bytes of an incomplete frame at the tail of the command FIFO (11 R200). -/
def FrameParser.held : FrameParser → Nat
  | .code => 0 | .length _ => 1 | .payload _ got _ => 2 + got.length | .lost => 0

/-- Bytes of a frame in the command FIFO. -/
def CmdFrame.size (f : CmdFrame) : Nat := 2 + f.payload.length

/-- Bytes in the command FIFO (11 R200). -/
def Port.commandCount (p : Port) : Nat := (p.frames.map CmdFrame.size).sum + p.parser.held

/-- IRQ is asserted while the output FIFO holds a byte (11 R198). -/
def irq (s : State) : Bool := !s.port.out.isEmpty

/-- The store is LOADING. -/
def StoreState.isLoading : StoreState → Bool
  | .loading _ => true | _ => false

/-- The store is SAVING. -/
def StoreState.isSaving : StoreState → Bool
  | .saving _ _ _ => true | _ => false

/-- The status byte (11 R199). -/
def statusByte (s : State) : Byte :=
  byteOf ((if s.port.out.isEmpty then 0 else 1)
    + (if s.port.commandCount < Config.commandCapacity then 2 else 0)
    + (if s.port.cmdLost then 4 else 0)
    + (if s.port.noticeLost then 8 else 0)
    + (if s.store.state.isLoading || s.store.state.isSaving then 16 else 0)
    + (if s.port.power = .dormant then 32 else 0)
    + (if s.port.contentLost then 64 else 0)
    + (if s.pe.hold.isEmpty then 0 else 128))

/-- From wake until the reload ends, or until WAKING ends when no reload follows (11 R207); the
store is LOADING during the reload. -/
def linkStartBlocked (s : State) : Bool := s.port.power = .waking || s.store.state.isLoading

/-- Scanning runs (07 R134): RESET released, the part not dormant, the store not LOADING. -/
def scanningRuns (s : State) : Bool :=
  !s.pins.resetAsserted && s.port.power ≠ .dormant && !s.store.state.isLoading

/-! ### Parity and error kinds (05) -/

/-- How many of a list of bits are set. -/
def countOnes (bs : List Bool) : Nat := bs.countP (· = true)

/-- The parity bit formed from the data bits (05 R97): 1 even, 2 odd, 3 mark. -/
def parityOf (rule : Int) (data : List Bool) : Bool :=
  if rule = 1 then countOnes data % 2 = 1
  else if rule = 2 then countOnes data % 2 = 0
  else true

/-- The low `n` bits of a code, least significant first (05 R97). -/
def dataBitsOf (n : Nat) (b : Byte) : List Bool := (List.range n).map fun i => b.getLsbD i

/-- A code as sampled: with 7 data bits it lies within 00h to 7Fh (05 R99). -/
def sampledCode (f : Framing) (b : Byte) : Byte := if f.dataBits = 7 then b &&& 0x7F#8 else b

/-- The error kind of a completed character (05 R99). -/
def errorKind (f : Framing) (b : Byte) (parityBit stopMark : Bool) : ErrKind :=
  if !stopMark then .framing
  else if f.parity ≠ 0
      && parityBit != parityOf f.parity (dataBitsOf f.dataBits.toNat (sampledCode f b)) then .parity
  else .none

/-- The bits of a transmitted character, true for mark: start, data, parity if any, stop bits
(05 R97, R109). -/
def lineBits (f : Framing) (b : Byte) : List Bool :=
  let data := dataBitsOf f.dataBits.toNat b
  false :: data ++ (if f.parity = 0 then [] else [parityOf f.parity data])
    ++ List.replicate f.stopBits.toNat true

/-- Bits of one character time (04 R88). -/
def Framing.charBits (f : Framing) : Int :=
  1 + f.dataBits + (if f.parity = 0 then 0 else 1) + f.stopBits

/-- Two character times in microseconds at a rate in bit/s, rounded half up: the length at which a
space run sets the break pending flag (04 R88). -/
def breakPendingUs (f : Framing) (rate : Nat) : Int := roundDiv (2 * f.charBits * 1000000) rate

/-! ### Link signals (04) -/

/-- The transmitter is on (04 R87). -/
def Link.transmitterOn (l : Link) : Bool :=
  match l.state with
  | .answering => true
  | .qualify => l.role = .answer
  | .online => true
  | .fade => true
  | _ => false

/-- The low band, mark and space in Hz (Table 4-1). -/
def lowBand : Nat × Nat := (1150, 950)
/-- The high band, mark and space in Hz (Table 4-1). -/
def highBand : Nat × Nat := (2150, 1950)

/-- The band a role transmits (Table 4-1); role none transmits nothing. -/
def Role.band : Role → Nat × Nat
  | .originate => lowBand
  | .answer => highBand
  | .none => (0, 0)

/-- The receive band of a role, none in role none (Table 4-1). -/
def Role.receiveBand : Role → Option (Nat × Nat)
  | .originate => some highBand
  | .answer => some lowBand
  | .none => Option.none

/-- The band the receiver listens to, none while it is off (Table 4-2). The levels and the mark and
space decisions that the rows of the link carry are those of this band (04 R69, R73). -/
def Link.receiverBand (l : Link) : Option (Nat × Nat) :=
  match l.state with
  | .down => none
  | .listen => some highBand
  | .answering => some lowBand
  | .qualify => l.role.receiveBand
  | .online => l.role.receiveBand
  | .fade => l.role.receiveBand

/-- Received bits are handed to the framer (Table 4-2). -/
def Link.bitsToFramer (l : Link) : Bool := l.state = .online

/-- What SPK carries: silence, or the mark tone, the space tone of a break, or the bits of the
character in flight, each in the role's band at the attenuation of TOR field 17 in dB (04 R69). -/
inductive Spk where
  | silent
  | mark (hz : Nat) (attenuation : Int)
  | space (hz : Nat) (attenuation : Int)
  | bits (markHz spaceHz : Nat) (bits : List Bool) (attenuation : Int)
  deriving DecidableEq, Repr

/-- The output at SPK (04 R69, R71, R91). -/
def spkOut (s : State) : Spk :=
  if s.pins.resetAsserted || !s.link.transmitterOn then .silent
  else
    let att := s.tor.nums.getD 16 0
    match s.link.breakSend, s.framer.inFlight with
    | .sending, _ => .space s.link.role.band.2 att
    | _, some c => .bits s.link.role.band.1 s.link.role.band.2 c.bits att
    | _, none => .mark s.link.role.band.1 att

/-! ### Engine signals (03) -/

/-- The width in microseconds for which STB is asserted, none while it is released (03 R55). -/
def strobeWidth (s : State) : Option Nat :=
  match s.pe.row with
  | .strobe f => some (if f.extension then f.we else f.wp)
  | _ => none

/-- The outputs MA, MB, MC and MD (03 R62). -/
def motorPhases (s : State) : Bool × Bool × Bool × Bool :=
  if s.pe.motorOn then
    match s.pe.motorPos with
    | 0 => (true, true, false, false)
    | 1 => (false, true, true, false)
    | 2 => (false, false, true, true)
    | _ => (true, false, false, true)
  else (false, false, false, false)

/-- The step rate that applies to a step made now, in steps/s (03 R62). -/
def stepRate (s : State) : Nat :=
  if s.tor.nums.getD 27 0 = 1 && (s.link.state = .online || s.link.state = .fade) then 150 else 400

end Sys2Proof.Machine
end

