-- ==== Sys2Proof/Machine/Ops.lean ====
section
/-! DEFINITION. The operations every block uses: raising a notice and placing it (11 R202), and small
updates of one block of the state. -/

namespace Sys2Proof.Machine

/-- A notice is raised on the present event. -/
def raise (n : Notice) (s : State) : State := { s with raised := s.raised ++ [n] }

/-- A notice frame joins the output FIFO whole, or is dropped whole with NOTICE LOST set
(11 R202). -/
def placeNotice (p : Port) (n : Notice) : Port :=
  if p.out.length + n.bytes.length ≤ Config.outputCapacity then { p with out := p.out ++ n.bytes }
  else { p with noticeLost := true }

/-- The notices raised on the event are placed, in the order in which they were raised. -/
def placeNotices (s : State) : State :=
  { s with port := s.raised.foldl placeNotice s.port, raised := [] }

/-- The print engine's state updated. -/
def State.onPe (s : State) (f : PrintEngine → PrintEngine) : State := { s with pe := f s.pe }

/-- The print queue updated. -/
def State.onPq (s : State) (f : PrintQueue → PrintQueue) : State := { s with pq := f s.pq }

/-- The coupler link updated. -/
def State.onLink (s : State) (f : Link → Link) : State := { s with link := f s.link }

/-- The serial framer updated. -/
def State.onFramer (s : State) (f : Framer → Framer) : State := { s with framer := f s.framer }

/-- The keyboard scanner updated. -/
def State.onKs (s : State) (f : KeyScanner → KeyScanner) : State := { s with ks := f s.ks }

/-- The form unit updated. -/
def State.onFu (s : State) (f : FormUnit → FormUnit) : State := { s with fu := f s.fu }

/-- The controller port updated. -/
def State.onPort (s : State) (f : Port → Port) : State := { s with port := f s.port }

/-- The store interface updated. -/
def State.onStore (s : State) (f : StoreUnit → StoreUnit) : State := { s with store := f s.store }

/-- The pins updated. -/
def State.onPins (s : State) (f : Pins → Pins) : State := { s with pins := f s.pins }

/-- An event of the world outside: while RESET is asserted the part takes none (log entry 13);
otherwise the event acts, and the notices it raised are placed. -/
def event (f : State → State) (s : State) : Host.Outcome State Fault Refusal :=
  if s.pins.resetAsserted then .next s else .next (placeNotices (f s))

end Sys2Proof.Machine
end

