-- ==== Sys2Proof/Machine/Framing.lean ====
section
/-! DEFINITION. The serial framer (05): TXQ and its head byte, flow control in both directions, RXF and
the overrun episode. -/

namespace Sys2Proof.Machine

/-- Framing options as TOR fields 3, 4 and 5 stand (05 R97). -/
def currentFraming (s : State) : Framing := ⟨s.opt 3, s.opt 4, s.opt 5⟩

/-- The byte taken becomes the character in flight, framed by the options as they stand
(05 R97, R109). -/
def putInFlight (s : State) (b : Byte) (fr : Framer) : Framer :=
  { fr with inFlight := some ⟨b, lineBits (currentFraming s) b⟩ }

/-- The transmitter takes the head byte of TXQ when it may (05 R109). -/
def txPump (s : State) : State :=
  if s.link.state = .online ∧ s.framer.inFlight = none ∧ s.link.breakSend = .none then
    match s.framer.flow, s.framer.data with
    | b :: fl, _ => s.onFramer fun fr => putInFlight s b { fr with flow := fl }
    | [], b :: ds =>
      if s.framer.farPaused then s else s.onFramer fun fr => putInFlight s b { fr with data := ds }
    | [], [] => s
  else s

/-- A write of `k` data bytes fits (05 R110). -/
def dataFits (k : Nat) (fr : Framer) : Bool := fr.data.length + k ≤ Config.txDataCapacity

/-- Data bytes join TXQ behind the last (05 R108, R109). -/
def addData (bs : List Byte) (s : State) : State :=
  txPump (s.onFramer fun fr => { fr with data := fr.data ++ bs })

/-- A flow code is placed behind the flow codes waiting; of two waiting the older goes first
(05 R106). -/
def placeFlow (b : Byte) (s : State) : State :=
  txPump (s.onFramer fun fr =>
    { fr with flow := (if 2 ≤ fr.flow.length then fr.flow.drop (fr.flow.length - 1) else fr.flow) ++ [b] })

/-- The pause test (05 R104). -/
def pauseTest (s : State) : State :=
  if s.opt 6 = 1 ∧ s.framer.paused = false ∧ 48 ≤ s.framer.rxf.length
      ∧ (s.link.state = .online ∨ s.link.state = .fade) then
    placeFlow (byteOf (s.opt 7).toNat) (s.onFramer fun fr => { fr with paused := true })
  else s

/-- The resume code is queued while paused (05 R105). -/
def queueResume (s : State) : State :=
  if s.framer.paused then
    placeFlow (byteOf (s.opt 8).toNat) (s.onFramer fun fr => { fr with paused := false })
  else s

/-- The head entry leaves RXF: the overrun episode may end, the resume code may be queued
(05 R101, R102, R105). -/
def removeRxfHead (s : State) : State :=
  let rest := s.framer.rxf.tail
  let s1 := s.onFramer fun fr =>
    { fr with rxf := rest, overrun := fr.overrun && decide (48 ≤ rest.length) }
  if rest.length ≤ 16 then queueResume s1 else s1

/-- A received break clears RXF (05 R103, R105). -/
def clearRxf (s : State) : State :=
  queueResume (s.onFramer fun fr => { fr with rxf := [], overrun := false })

/-- The far-paused state after a far pause code (05 R107). -/
def farPauseCode (s : State) (code : Byte) : Bool :=
  let isPause := code = byteOf (s.opt 7).toNat
  let isResume := code = byteOf (s.opt 8).toNat
  if isPause && isResume then !s.framer.farPaused
  else if isPause then true
  else if isResume then false
  else s.framer.farPaused

/-- The code acts on far pause (05 R100 (1)). -/
def isFarPauseCode (s : State) (code : Byte) (err : ErrKind) : Bool :=
  s.opt 9 = 1 && err = .none
    && (code = byteOf (s.opt 7).toNat || code = byteOf (s.opt 8).toNat)

/-- A completed character is taken (05 R100): far pause, RXF entry with the error count and the pause
test, or overrun. -/
def takeCharacter (code : Byte) (err : ErrKind) (s : State) : State :=
  if isFarPauseCode s code err then
    txPump (s.onFramer fun fr => { fr with farPaused := farPauseCode s code })
  else if s.framer.rxf.length < Config.rxfCapacity then
    let s1 := s.onFramer fun fr => { fr with rxf := fr.rxf ++ [⟨code, err⟩] }
    let s2 := if err = .none then s1
      else s1.onLink fun l => { l with errCount := if l.errCount < 99 then l.errCount + 1 else l.errCount }
    pauseTest s2
  else if s.framer.overrun then s
  else raise .rxOverrun (s.onFramer fun fr => { fr with overrun := true })

/-- What entry to DOWN does to the framer (05 R113). -/
def framerDown (fr : Framer) : Framer :=
  { fr with rx := .suspended, flow := [], data := [], inFlight := none, paused := false, farPaused := false }

end Sys2Proof.Machine
end

