-- ==== Sys2Proof/Machine/Engine.lean ====
section
/-! DEFINITION. The print engine (03): arbiter of the shared bus, heat arithmetic, phases and firing,
hold causes, the engine's decision, temperature cadence and the step. What needs the print queue's
removal of an entry stands in PrintPath.lean. -/

namespace Sys2Proof.Machine

/-! ### Shared serial bus (03 R60, R61) -/

/-- A head load request: granted at once on a free bus with nothing waiting, else it waits. -/
def requestLoad (pe : PrintEngine) : PrintEngine :=
  if pe.bus = .free ∧ pe.scanWait = none then { pe with bus := .head } else { pe with loadWait := true }

/-- A key row scan request: granted at once on a free bus with nothing waiting; one that finds a scan
request waiting is not added. -/
def requestScan (pe : PrintEngine) : PrintEngine :=
  if pe.scanWait ≠ none then pe
  else if pe.bus = .free ∧ !pe.loadWait then { pe with bus := .scan }
  else { pe with scanWait := some 0 }

/-- The transfer in progress ends and the bus falls free: a head load goes first unless the scan has
waited 4 ms or more. -/
def releaseBus (pe : PrintEngine) : PrintEngine :=
  match pe.loadWait, pe.scanWait with
  | false, none => { pe with bus := .free }
  | true, none => { pe with bus := .head, loadWait := false }
  | false, some _ => { pe with bus := .scan, scanWait := none }
  | true, some ms =>
    if 4 ≤ ms then { pe with bus := .scan, scanWait := none }
    else { pe with bus := .head, loadWait := false }

/-! ### Heat arithmetic (03 R50 to R54) -/

/-- Supply-compensated width W1 (03 R50). -/
def widthW1 (wb : Int) (v : Nat) : Int :=
  let vc := clampInt 50 75 v
  roundDiv (wb * 3600) (vc * vc)

/-- Temperature factor F (03 R51). -/
def factorF (k t : Int) : Int :=
  let f := 1000 + k * (25 - clampInt (-20) 70 t)
  if f < 250 then 250 else f

/-- Full width W2 (03 R51). -/
def widthW2 (inp : RowInputs) (t : Int) : Int :=
  clampInt 100 4000 (roundDiv (widthW1 inp.wb inp.v * factorF inp.k t) 1000)

/-- Primary width Wp (03 R52). -/
def widthWp (inp : RowInputs) (t : Int) : Int := roundDiv (widthW2 inp t * inp.h) 100

/-- Extension width We (03 R52). -/
def widthWe (inp : RowInputs) (t : Int) : Int := widthW2 inp t - widthWp inp t

/-- Available current Iav (03 R53). -/
def currentIav (inp : RowInputs) : Int := if inp.txOn then inp.ib - inp.itx else inp.ib

/-- Dot limit Dmax (03 R53). -/
def limitDmax (inp : RowInputs) : Nat :=
  (clampInt 24 384 (currentIav inp * inp.r / (clampInt 50 75 inp.v * 100))).toNat

/-- The black dots in head order cut into phases of at most `dmax` dots (03 R54); `fuel` bounds the
number of phases. -/
def splitPhases (dmax : Nat) : (fuel : Nat) → List Nat → List (List Nat)
  | 0, _ => []
  | _ + 1, [] => []
  | fuel + 1, l => l.take dmax :: splitPhases dmax fuel (l.drop dmax)

/-- The dots of a phase that are white in the history row (03 R55). -/
def newlyBlack (history : Dots) (phase : List Nat) : List Nat :=
  phase.filter fun i => !history.getLsbD i

/-! ### Hold causes and the decision (03 R39, R40) -/

/-- A cause joins the set, with its HOLD CHANGE; a cause already there changes nothing. -/
def setCause (c : HoldCause) (s : State) : State :=
  if s.pe.hold.has c then s
  else raise (.holdChange (s.pe.hold.put true c))
    (s.onPe fun pe => { pe with hold := pe.hold.put true c })

/-- The engine becomes HELD; on entry the history row is cleared and a measurement forced. -/
def enterHeld (s : State) : State :=
  if s.pe.engine = .held then s
  else s.onPe fun pe => { pe with engine := .held, history := 0, forced := true }

/-- The engine becomes IDLE; on entry the history row is cleared and a measurement forced. -/
def enterIdle (s : State) : State :=
  if s.pe.engine = .idle then s
  else s.onPe fun pe => { pe with engine := .idle, history := 0, forced := true }

/-- What step (1) of a row cycle samples (03 R47, R53). -/
def rowInputs (s : State) : RowInputs where
  v := s.pins.vsense
  txOn := s.link.transmitterOn
  wb := s.opt 22
  k := s.opt 23
  h := s.opt 24
  r := s.opt 25
  ib := s.opt 26
  itx := s.opt 27

/-- The row of the head entry that the row counters point at, composed from the glyphs as they stand
(03 R47 step (3); 02 R34). -/
def composeHead (s : State) : Dots :=
  match s.pq.entries with
  | ⟨_, .text f cells rotated _, _, _⟩ :: _ => printedRow s.cg f cells rotated s.pe.entryRow
  | _ => 0

/-- Steps (3) to (5) begin: compose, compute, split, and ask for the first load; a blank row goes to
its step (03 R47, R50 to R55). -/
def beginFiring (inp : RowInputs) (s : State) : State :=
  let dots := composeHead s
  let t := s.pe.lastT.getD 25
  let black := blackDots dots
  if black.isEmpty then s.onPe fun pe => { pe with row := .stepPrinted dots }
  else
    let f : Firing :=
      { dots := dots
        wp := (widthWp inp t).toNat
        we := (widthWe inp t).toNat
        phases := splitPhases (limitDmax inp) black.length black
        extension := false }
    s.onPe fun pe => requestLoad { pe with row := .load f }

/-- A printed row of the head entry begins, its supply measurement passed (03 R47, R58, R59). -/
def beginPrinted (s : State) : State :=
  let inp := rowInputs s
  let count := s.pe.cadS + 1
  let s1 := (s.onPe fun pe =>
    { pe with engine := .printing, lastV := some s.pins.vsense, feedRun := 0, cadS := count }).onPq
      fun pq => { pq with inPrint := true }
  if s.pe.forced || decide (s.pe.cadM ≤ count) || s.pe.lastT.isNone then
    s1.onPe fun pe => { pe with row := .tempWait inp }
  else beginFiring inp s1

/-- A feed row begins, its supply measurement passed (03 R63). -/
def beginFeed (s : State) : State :=
  s.onPe fun pe => { pe with engine := .feeding, lastV := some s.pins.vsense, row := .stepFeed }

/-- A row that its supply measurement does not open: LOW SUPPLY is added, a direct feed ends, and the
engine is HELD (03 R42, R48, R65). -/
def lowSupplyStop (s : State) : State :=
  enterHeld ((setCause .lowSupply s).onPe fun pe => { pe with directFeed := none })

/-- The next row of the head entry begins, opened by a supply measurement (03 R39 (3), R48). -/
def beginEntryRow (e : Entry) (s : State) : State :=
  if s.pins.vsense < 50 then lowSupplyStop s
  else
    match e.body with
    | .text f _ _ _ =>
      if s.pe.entryRow < f.h then beginPrinted s
      else beginFeed (s.onPq fun pq => { pq with inPrint := true })
    | .feed _ => beginFeed (s.onPq fun pq => { pq with inPrint := true })

/-- A row of the direct feed begins, opened by a supply measurement (03 R65). -/
def beginDirectRow (s : State) : State :=
  if s.pins.vsense < 50 then lowSupplyStop s else beginFeed s

/-- A direct feed has rows remaining and may go on (03 R65). -/
def directFeedGoesOn (pe : PrintEngine) : Bool :=
  match pe.directFeed with
  | some n => decide (0 < n) && pe.hold.feedAllowed
  | none => false

/-- The engine decides (03 R39). -/
def engineDecide (s : State) : State :=
  if directFeedGoesOn s.pe then beginDirectRow s
  else
    let s1 := s.onPe fun pe => { pe with directFeed := none }
    if !s1.pe.hold.isEmpty then enterHeld s1
    else
      match s1.pq.entries with
      | e :: _ => beginEntryRow e s1
      | [] => enterIdle s1

/-- A cause is added by an event; an IDLE engine decides. A cause already in the set changes nothing
(03 R39, R40). -/
def addCause (c : HoldCause) (s : State) : State :=
  if s.pe.hold.has c then s
  else
    let s1 := setCause c s
    if s1.pe.engine = .idle then engineDecide s1 else s1

/-- A cause is removed, with its HOLD CHANGE; a HELD engine decides when the set becomes empty
(03 R39, R40). -/
def removeCause (c : HoldCause) (s : State) : State :=
  if s.pe.hold.has c then
    let s1 := raise (.holdChange (s.pe.hold.put false c))
      (s.onPe fun pe => { pe with hold := pe.hold.put false c })
    if s1.pe.hold.isEmpty && s1.pe.engine = .held then engineDecide s1 else s1
  else s

/-- The print queue offers its head entry; an IDLE engine decides (03 R39). -/
def offerHead (s : State) : State :=
  if s.pe.engine = .idle && !s.pq.entries.isEmpty then engineDecide s else s

/-! ### Firing (03 R55) -/

/-- The phase being fired. -/
def Firing.phase (f : Firing) : List Nat := f.phases.headD []

/-- The dots that the present load shifts into the head: the phase, or its newly black dots. -/
def Firing.loadDots (f : Firing) (history : Dots) : List Nat :=
  if f.extension then newlyBlack history f.phase else f.phase

/-- The bits of a head load in the order in which SDAT carries them, one for each SCLK pulse: dot 383
first and dot 0 last, 1 for black (03 R55). -/
def headSerial (d : Dots) : List Bool := (List.range 384).map fun i => d.getLsbD (383 - i)

/-- The key row pattern that drives row `r` alone, bit r for row r (07 R133, R134). -/
def rowPattern (r : Nat) : BitVec 8 := 1#8 <<< r

/-- The bits of a key row pattern in the order in which SDAT carries them: row 7 first and row 0 last,
1 for a row driven (07 R133). -/
def rowSerial (p : BitVec 8) : List Bool := (List.range 8).map fun i => p.getLsbD (7 - i)

/-- What the transfer that holds the shared bus places on SDAT, one bit for each SCLK pulse, nothing on
a free bus (03 R55, R60; 07 R133). -/
def sdatOut (s : State) : List Bool :=
  match s.pe.bus, s.pe.row with
  | .head, .load f => headSerial (dotsOf (f.loadDots s.pe.history))
  | .scan, _ => rowSerial (rowPattern s.ks.rowPtr)
  | _, _ => []

/-- A granted head load: shift, latch, STB asserted, and the bus falls free. -/
def doHeadLoad (pe : PrintEngine) : PrintEngine :=
  match pe.row with
  | .load f =>
    if pe.bus = .head then
      releaseBus { pe with row := .strobe f, headLatch := dotsOf (f.loadDots pe.history) }
    else pe
  | _ => pe

/-- The row goes on behind a phase: the next phase's primary load, or the step. -/
def nextPhase (f : Firing) (pe : PrintEngine) : PrintEngine :=
  match f.phases.tail with
  | [] => { pe with row := .stepPrinted f.dots }
  | ps => requestLoad { pe with row := .load { f with phases := ps, extension := false } }

/-- A strobe ends: the extension of the phase if it has one, else the next phase or the step. -/
def doStrobeEnd (pe : PrintEngine) : PrintEngine :=
  match pe.row with
  | .strobe f =>
    if !f.extension && decide (0 < f.we) && !(newlyBlack pe.history f.phase).isEmpty then
      requestLoad { pe with row := .load { f with extension := true } }
    else nextPhase f pe
  | _ => pe

/-! ### Temperature (03 R41, R49, R58) -/

/-- M after a measurement in a row cycle (03 R58); the first measurement leaves it. -/
def cadenceM (mPrev : Nat) (tPrev : Option Int) (t : Int) : Nat :=
  match tPrev with
  | none => mPrev
  | some tp =>
    let d := (t - tp).natAbs
    if d = 0 then min (2 * mPrev) 64 else max 4 (min 64 (2 * mPrev / d))

/-- The measurement of a row cycle, which then composes and fires (03 R41, R47, R49, R58, R59). -/
def doRowTemperature (t : Int) (s : State) : State :=
  match s.pe.row with
  | .tempWait inp =>
    let s1 := s.onPe fun pe =>
      { pe with cadM := cadenceM pe.cadM pe.lastT t, cadS := 0, forced := false, lastT := some t }
    beginFiring inp (if 70 ≤ t then setCause .hot s1 else s1)
  | _ => s

/-! ### The step (03 R56, R57, R59, R62, R63) -/

/-- The paper advances one row: motor position, history row, feed-run count. -/
def doStep (pe : PrintEngine) : PrintEngine :=
  let pe1 := { pe with motorPos := (pe.motorPos + 1) % 4, motorOn := true, row := .idle }
  match pe.row with
  | .stepPrinted dots => { pe1 with history := dots }
  | .stepFeed =>
    { pe1 with
      history := 0
      feedRun := pe.feedRun + 1
      forced := pe.forced || pe.feedRun + 1 == 48 }
  | _ => pe

/-- The row in progress waits for its step. -/
def Row.atStep : Row → Bool
  | .stepPrinted _ => true | .stepFeed => true | _ => false

end Sys2Proof.Machine
end

