-- ==== Sys2Proof/Machine/Lines.lean ====
section
/-! DEFINITION. Appends to the print queue and the three open lines (01 R3, R11 to R14, R17). -/

namespace Sys2Proof.Machine

/-- An open line by name. -/
def LineAssembler.line (la : LineAssembler) : LineName → OpenLine
  | .far => la.far | .ctl => la.ctl | .key => la.key

/-- The assembler with one line replaced. -/
def LineAssembler.putLine (la : LineAssembler) (nm : LineName) (l : OpenLine) : LineAssembler :=
  match nm with
  | .far => { la with far := l }
  | .ctl => { la with ctl := l }
  | .key => { la with key := l }

/-- An open line of the state. -/
def State.line (s : State) (nm : LineName) : OpenLine := s.la.line nm

/-- The state with one open line replaced. -/
def State.putLine (s : State) (nm : LineName) (l : OpenLine) : State :=
  { s with la := s.la.putLine nm l }

/-- The source of a line's entries. -/
def LineName.source : LineName → Source
  | .far => .far | .ctl => .ctl | .key => .key

/-- Free places of the print queue (01 R3). -/
def PrintQueue.free (pq : PrintQueue) : Nat := Config.pqCapacity - pq.entries.length

/-- Entries join the queue behind the last, and the head is offered to the engine (01 R2, R3). -/
def appendEntries (es : List Entry) (s : State) : State :=
  offerHead (s.onPq fun pq => { pq with entries := pq.entries ++ es })

/-- The append of an open line or of the FEED command can be made at once (01 R3). -/
def canAppend (k : Nat) (pq : PrintQueue) : Bool :=
  decide (k ≤ pq.free) && pq.pendingBlock.isNone && pq.waitList.isEmpty

/-- The font in force for a line: the captured one, else TOR field 18 (01 R11). -/
def lineFont (s : State) (l : OpenLine) : Font := l.font.getD (fontOf (s.opt 18))

/-- The line width (01 R11). -/
def lineWidth (s : State) (l : OpenLine) : Nat := (lineFont s l).columns

/-- The cells of a commit: a cell of 20h for each blank slot (01 R14 (1)). -/
def commitCells : (col : Nat) → List Placed → List Cell
  | _, [] => []
  | col, p :: ps =>
    List.replicate (p.col - col) ⟨0x20, false, false, false⟩
      ++ p.cell :: commitCells (p.col + p.cell.columns) ps

/-- The TEXT entry that a commit forms (01 R14 (1), (2)). -/
def commitEntry (s : State) (nm : LineName) : Entry :=
  let l := s.line nm
  ⟨nm.source, .text (lineFont s l) (commitCells 0 l.cells) false (s.opt 19).toNat, false, false⟩

/-- A FEED entry of a source. -/
def feedEntry (src : Source) (rows : Nat) : Entry := ⟨src, .feed rows, false, false⟩

/-- The line as after a commit; a commit of the FAR line stops its hold timer (01 R14 (3), R17). -/
def clearLine (nm : LineName) (s : State) : State :=
  let s1 := s.putLine nm { emptyLine with waiting := (s.line nm).waiting }
  if nm = .far then { s1 with la := { s1.la with farHoldMs := 0 } } else s1

/-- The formed entries wait, and the line joins the wait list (01 R3 (1)). -/
def waitEntries (nm : LineName) (es : List Entry) (s : State) : State :=
  (s.putLine nm { s.line nm with waiting := es }).onPq
    fun pq => { pq with waitList := pq.waitList ++ [nm] }

/-- The line is closed with the entries formed: appended at once, or waiting (FAR, KEY), or refused
with nothing changed (CTL) (01 R3, R14). -/
def closeLine (nm : LineName) (es : List Entry) (s : State) : Option State :=
  if canAppend es.length s.pq then some (appendEntries es (clearLine nm s))
  else
    match nm with
    | .ctl => none
    | _ => some (waitEntries nm es (clearLine nm s))

/-- How a line takes a code it was offered. -/
inductive LineTake where
  /-- The line took the code. -/
  | taken (s : State)
  /-- The code stays with its giver; a wrap commit of the FAR or KEY line may have gone to waiting
  entries (01 R13). -/
  | refused (s : State)

/-- Columns from `a` on, `n` of them, share a column with a placed cell. -/
def overlaps (a n : Nat) (p : Placed) : Bool := p.col < a + n && a < p.col + p.cell.columns

/-- A cell put among the placed cells by rising column. -/
def insertPlaced (p : Placed) : List Placed → List Placed
  | [] => [p]
  | q :: qs => if p.col < q.col then p :: q :: qs else q :: insertPlaced p qs

/-- A printable code placed at the line's column: cells in its slots go, the font is captured by the
first cell, the column moves behind the new cell (01 R11, R12). -/
def placeCode (f : Font) (code : Byte) (error : Bool) (l : OpenLine) : OpenLine :=
  let cell : Cell := ⟨code, l.underline, l.double, error⟩
  { l with
    cells := insertPlaced ⟨l.column, cell⟩ (l.cells.filter fun p => !overlaps l.column cell.columns p)
    column := l.column + cell.columns
    font := some (l.font.getD f) }

/-- Columns that the next printable code of a line needs (01 R12). -/
def OpenLine.need (l : OpenLine) : Nat := if l.double then 2 else 1

/-- A line takes a printable code (01 R12, R13). -/
def takePrintable (nm : LineName) (code : Byte) (error : Bool) (s : State) : LineTake :=
  let l := s.line nm
  let f := fontOf (s.opt 18)
  if l.column + l.need ≤ lineWidth s l then .taken (s.putLine nm (placeCode f code error l))
  else if s.opt 20 = 1 then
    if l.cells.isEmpty then
      .taken (s.putLine nm (placeCode f code error { l with column := 0 }))
    else
      match closeLine nm [commitEntry s nm] s with
      | none => .refused s
      | some s1 =>
        if (s1.line nm).waiting.isEmpty then
          .taken (s1.putLine nm (placeCode f code error (s1.line nm)))
        else .refused s1
  else .taken s

/-- A line closed by a control code. -/
def closeTake (nm : LineName) (es : List Entry) (s : State) : LineTake :=
  match closeLine nm es s with
  | some s1 => .taken s1
  | none => .refused s

/-- 0Ch into a line: the line's entry if it holds a cell, and a FEED of 96 rows, in one append. An
empty line whose append is made at once keeps its attribute state (log entry 16). -/
def takeFormFeed (nm : LineName) (s : State) : LineTake :=
  let l := s.line nm
  let ff := feedEntry nm.source Config.formFeedRows
  if l.cells.isEmpty then
    if canAppend 1 s.pq then .taken (appendEntries [ff] (s.putLine nm { l with column := 0 }))
    else closeTake nm [ff] s
  else closeTake nm [commitEntry s nm, ff] s

/-- A line takes a control code (01 R14). -/
def takeControl (nm : LineName) (code : Byte) (s : State) : LineTake :=
  let l := s.line nm
  match code.toNat with
  | 0x0A => closeTake nm [commitEntry s nm] s
  | 0x0C => takeFormFeed nm s
  | 0x0D => .taken (s.putLine nm { l with column := 0 })
  | 0x09 => .taken (s.putLine nm { l with column := min ((l.column / 8 + 1) * 8) (lineWidth s l) })
  | 0x08 => .taken (s.putLine nm { l with column := l.column - 1 })
  | 0x0E => .taken (s.putLine nm { l with double := true })
  | 0x0F => .taken (s.putLine nm { l with double := false })
  | 0x16 => .taken (s.putLine nm { l with underline := true })
  | 0x17 => .taken (s.putLine nm { l with underline := false })
  | 0x07 => .taken (if nm = .far then raise .bell s else s)
  | _ => .taken s

/-- A printable code: 20h to 7Eh, 80h to FFh, or any code with an error kind (01 R12). -/
def printableCode (code : Byte) (err : ErrKind) : Bool :=
  err ≠ .none || (0x20 ≤ code.toNat && code.toNat ≠ 0x7F)

/-- A line without waiting entries is offered a code; each code the FAR line takes starts its hold
count again (01 R12 to R14, R17). A line with waiting entries takes none (01 R15, R16). -/
def offerCode (nm : LineName) (code : Byte) (err : ErrKind) (s : State) : LineTake :=
  if !(s.line nm).waiting.isEmpty then .refused s
  else
    match (if printableCode code err then takePrintable nm code (err ≠ .none) s
           else takeControl nm code s) with
    | .taken s1 => .taken (if nm = .far then { s1 with la := { s1.la with farHoldMs := 0 } } else s1)
    | .refused s1 => .refused s1

/-- A commit request of another block: no effect on a line that holds no cell, else as 0Ah
(01 R14). -/
def commitRequest (nm : LineName) (s : State) : State :=
  if (s.line nm).cells.isEmpty then s else (closeLine nm [commitEntry s nm] s).getD s

/-- A line that holds no cell takes its width from TOR field 18: a column above it becomes the
width (01 R11). -/
def clampColumn (w : Nat) (l : OpenLine) : OpenLine :=
  if l.font.isNone then { l with column := min l.column w } else l

/-- The three lines after a change of TOR field 18. -/
def clampColumns (s : State) : State :=
  let w := (fontOf (s.opt 18)).columns
  { s with la := { s.la with
      far := clampColumn w s.la.far, ctl := clampColumn w s.la.ctl, key := clampColumn w s.la.key } }

/-- The FAR hold timer runs (01 R17). -/
def farHoldRuns (s : State) : Bool := !s.la.far.cells.isEmpty && s.opt 21 ≠ 0

end Sys2Proof.Machine
end

