-- ==== Sys2Proof/Machine/PrintPath.lean ====
section
/-! DEFINITION. What an append or a removal of the print queue sets off: the code offered to the FAR line,
the KEY line output list, the after-append step of a form, the wait list, cuts, purges and the end of
a row (01 R4 to R9, R15, R16; 03 R39, R43, R44, R66; 09 R172, R184). -/

namespace Sys2Proof.Machine

/-! ### The code offered to the FAR line (06 R118) -/

/-- In OFFER the FAR line is offered the held code; when it takes the code, a text character leaves
RXF and the parser returns to TEXT (01 R15, 06 R118). -/
def offerHeld (s : State) : State :=
  match s.dp with
  | .offer code err fromRxf =>
    match offerCode .far code err s with
    | .taken s1 =>
      let s2 := { s1 with dp := .text }
      if fromRxf then removeRxfHead s2 else s2
    | .refused s1 => s1
  | _ => s

/-! ### The KEY line output list (09 R172) -/

/-- The items are written to the KEY line from the head until all are written or one cannot be taken;
the rest stays in the list. -/
def writeKeyOut : List KeyOutItem → State → State
  | [], s => s.onFu fun fu => { fu with keyOut := [] }
  | .code b :: rest, s =>
    match offerCode .key b .none s with
    | .taken s1 => writeKeyOut rest s1
    | .refused s1 => s1.onFu fun fu => { fu with keyOut := .code b :: rest }
  | .commit :: rest, s =>
    let s1 := commitRequest .key s
    if (s1.line .key).waiting.isEmpty then writeKeyOut rest s1
    else s1.onFu fun fu => { fu with keyOut := .commit :: rest }

/-- The list is written once the KEY line holds no waiting entries. -/
def serveKeyOut (s : State) : State :=
  if (s.line .key).waiting.isEmpty then writeKeyOut s.fu.keyOut s else s

/-- The form unit gives the list a commit request alone: behind items that wait, but not behind a
commit request. -/
def giveCommit (s : State) : State :=
  if s.fu.keyOut.isEmpty then
    serveKeyOut (s.onFu fun fu => { fu with keyOut := [.commit] })
  else if s.fu.keyOut.getLast? = some .commit then s
  else s.onFu fun fu => { fu with keyOut := fu.keyOut ++ [.commit] }

/-- The form unit gives the list a commit request and a new prompt, which replace items that wait. -/
def givePrompt (prompt : List Byte) (s : State) : State :=
  serveKeyOut (s.onFu fun fu => { fu with keyOut := .commit :: prompt.map KeyOutItem.code })

/-! ### The form unit after an append (09 R184) -/

/-- The template of a slot number, an empty one where the slot holds none. -/
def templateAt (fu : FormUnit) (n : Nat) : Template :=
  ((fu.slots.getD (n - 1) none)).getD ⟨.std, [], [], []⟩

/-- The template that the form instance was opened from (09 R168). -/
def State.formTemplate (s : State) : Template :=
  match s.fu.inst with
  | some i => templateAt s.fu i.number
  | none => ⟨.std, [], [], []⟩

/-- The form instance replaced. -/
def putInst (i : Option FormInst) (s : State) : State := s.onFu fun fu => { fu with inst := i }

/-- FORM STATE of the instance as it stands (09 R170). -/
def raiseFormState (st : FormState) (number : Nat) (cause : FormCause) (o : Origin) (s : State) : State :=
  raise (.formState st number cause o) s

/-- The after-append step: REPORTING with the report built, or CLOSED with NO REPORT (09 R184,
R185). -/
def formAppended (o : Origin) (s : State) : State :=
  match s.fu.inst with
  | some i =>
    if s.opt 37 = 1 ∧ s.link.state = .online then
      raiseFormState .reporting i.number .reporting o
        (putInst (some { i with
          phase := .reporting
          report := reportText s.formTemplate i.number i.vals
          reportPos := 0 }) s)
    else raiseFormState .closed i.number .noReport o (putInst none s)
  | none => s

/-! ### The wait list (01 R4, R5) -/

/-- Step (1) of the service: a pending FORM block that fits is appended (01 R4, R5). -/
def appendPendingBlock (s : State) : State :=
  match s.pq.pendingBlock with
  | some b =>
    if b.length ≤ s.pq.free then
      formAppended .nobody (appendEntries b (s.onPq fun pq => { pq with pendingBlock := none }))
    else s
  | none => s

/-- A line whose waiting entries were appended takes codes again: the FAR line the code offered to it,
the KEY line the form unit's items (01 R4, R15, R16). -/
def lineFreed (nm : LineName) (s : State) : State :=
  match nm with
  | .far => offerHeld s
  | .key => serveKeyOut s
  | .ctl => s

/-- Step (2) of the service, repeated for each new first line; `fuel` bounds the lines served. -/
def serveLines : (fuel : Nat) → State → State
  | 0, s => s
  | fuel + 1, s =>
    match s.pq.pendingBlock, s.pq.waitList with
    | none, nm :: rest =>
      let es := (s.line nm).waiting
      if es.length ≤ s.pq.free then
        serveLines fuel (lineFreed nm
          (appendEntries es
            ((s.putLine nm { s.line nm with waiting := [] }).onPq fun pq => { pq with waitList := rest })))
      else s
    | _, _ => s

/-- The wait list is served (01 R4). Each line served fills a place, so 41 rounds suffice. -/
def serveWaitList (s : State) : State :=
  serveLines (Config.pqCapacity + 1) (appendPendingBlock s)

/-- A rendered FORM block is handed over: appended at once when it fits and no block is pending,
otherwise pending (01 R5); true when it was appended. -/
def handOverBlock (b : List Entry) (s : State) : State × Bool :=
  if b.length ≤ s.pq.free ∧ s.pq.pendingBlock.isNone then (appendEntries b s, true)
  else (s.onPq fun pq => { pq with pendingBlock := some b }, false)

/-- A pending FORM block is withdrawn, and the wait list served (01 R6). -/
def withdrawBlock (s : State) : State :=
  if s.pq.pendingBlock.isNone then s
  else serveWaitList (s.onPq fun pq => { pq with pendingBlock := none })

/-! ### Removal, cut and purge (01 R7 to R9; 03 R43, R66) -/

/-- The head entry, in print, leaves the queue; its row counters return to zero, and a set paper-out
pending flag adds PAPER OUT (03 R39, R43, R66). -/
def dropHead (s : State) : State :=
  let s1 := (s.onPq fun pq => { pq with entries := pq.entries.tail, inPrint := false }).onPe
    fun pe => { pe with entryRow := 0 }
  if s1.pe.paperPending then addCause .paperOut (s1.onPe fun pe => { pe with paperPending := false })
  else s1

/-- A row of the entry in print is being done: a row in progress that is no row of a direct feed
(01 R9). -/
def entryRowInProgress (s : State) : Bool := s.pe.row ≠ .idle && s.pe.directFeed.isNone

/-- The entry is of a named source. -/
def Entry.ofSources (srcs : List Source) (e : Entry) : Bool := srcs.contains e.source

/-- The entries of the named sources that are not in print leave the queue, and a matching entry in
print is cut (01 R8, R9); the number removed or cut comes with the state. The wait list is not yet
served. -/
def purgeEntries (srcs : List Source) (s : State) : State × Nat :=
  match s.pq.inPrint, s.pq.entries with
  | true, h :: rest =>
    let kept := rest.filter fun e => !e.ofSources srcs
    let gone := rest.length - kept.length
    if h.ofSources srcs then
      if entryRowInProgress s then
        if h.cutMark then (s.onPq fun pq => { pq with entries := h :: kept }, gone)
        else (s.onPq fun pq => { pq with entries := { h with cutMark := true } :: kept }, gone + 1)
      else (dropHead (s.onPq fun pq => { pq with entries := h :: kept }), gone + 1)
    else (s.onPq fun pq => { pq with entries := h :: kept }, gone)
  | _, es =>
    let kept := es.filter fun e => !e.ofSources srcs
    (s.onPq fun pq => { pq with entries := kept }, es.length - kept.length)

/-! ### The end of a row (03 R39, R43, R44, R66) -/

/-- LEVER UP that was due at the row boundary is added, and removed again if the lever has been closed
for 500 ms already (03 R44). The engine decides behind both changes, so that it does not pass through
HELD between them (DESIGN CHOICE, log entry 35). -/
def leverAtBoundary (s : State) : State :=
  if s.pe.leverPending then
    let s1 := addCause .leverUp (s.onPe fun pe => { pe with leverPending := false })
    if s1.pe.leverCount = .reached then removeCause .leverUp s1 else s1
  else s

/-- The entry in print after one of its rows: removed if it is cut, removed with COPY PRINTED due if it
is complete, else its next row stands (01 R7, R9; 03 R39). COPY PRINTED stands before the HOLD CHANGE
of a PAPER OUT that the same removal adds (DESIGN CHOICE, log entry 20). -/
def entryRowDone (s : State) : State :=
  match s.pq.entries with
  | e :: _ =>
    let s1 := s.onPe fun pe => { pe with entryRow := pe.entryRow + 1 }
    if e.cutMark then serveWaitList (dropHead s1)
    else if e.body.rows ≤ s1.pe.entryRow then
      serveWaitList (dropHead (if e.lastOfBlock then raise .copyPrinted s1 else s1))
    else s1
  | [] => s

/-- A row ends: the row's accounting, the lever, and the engine's decision (03 R39, R44). A PAPER OUT
that the removal of the entry adds comes before a LEVER UP due at this boundary (DESIGN CHOICE, log
entry 36). -/
def rowEnd (s : State) : State :=
  let s1 :=
    match s.pe.directFeed with
    | some n => s.onPe fun pe => { pe with directFeed := some (n - 1) }
    | none => entryRowDone s
  engineDecide (leverAtBoundary s1)

end Sys2Proof.Machine
end

