-- ==== Sys2Proof/Machine/LinkOps.lean ====
section
/-! DEFINITION. The coupler link (04): state changes with their notices, carrier, gain, break in both
directions, and entry to DOWN with what it does in the other blocks. -/

namespace Sys2Proof.Machine

/-- The link enters a state, with its LINK STATE notice (04 R72). -/
def linkEnter (st : LinkState) (cause : LinkCause) (s : State) : State :=
  raise (.linkState st cause) (s.onLink fun l => { l with state := st })

/-! ### Receive gain (04 R83 to R85) -/

/-- The coarse gain for a raw level L (04 R77 (2)). -/
def coarseGain (level : Int) : Int := floor5 (clampInt 0 420 (-120 - level))

/-- An automatic gain step at gained level L + G (04 R84). -/
def gainStep (gain level : Int) : Int :=
  if -90 < level + gain then clampInt 0 420 (gain - 5)
  else if level + gain < -150 then clampInt 0 420 (gain + 5)
  else gain

/-- A gain change is applied (04 R85). -/
def applyGain (s : State) : State :=
  s.onLink fun l =>
    { l with gain := if s.opt 10 = 1 then floor5 (clampInt 0 420 (s.opt 11)) else l.gain, gainPending := false }

/-- A pending gain change is applied, if there is one. -/
def applyPendingGain (s : State) : State := if s.link.gainPending then applyGain s else s

/-- What the end of a completed character does to the gain (04 R84, R85). -/
def gainAtCharacter (s : State) : State :=
  if s.link.gainPending then applyGain s
  else if s.opt 10 = 0 then
    match s.link.level with
    | some lv => s.onLink fun l => { l with gain := gainStep l.gain lv }
    | none => s
  else s

/-- A write of field 10 or 11 as a gain change (04 R85). -/
def gainChange (s : State) : State :=
  if s.link.state ≠ .online ∨ s.opt 12 = 1 then applyGain s
  else s.onLink fun l => { l with gainPending := true }

/-! ### Entering and leaving ONLINE (04 R79 to R82, 05 R98) -/

/-- The framer waits for a mark, and the transmitter may take from TXQ (05 R98 (1), R109). -/
def onlineStarts (s : State) : State := txPump (s.onFramer fun fr => { fr with rx := .waitMark })

/-- The link leaves ONLINE: the character being assembled is discarded, a space run ends, a pending
gain change is applied (04 R81, R85, R88; 05 R98 (6)). -/
def onlineEnds (s : State) : State :=
  applyPendingGain ((s.onFramer fun fr => { fr with rx := .suspended }).onLink
    fun l => { l with spaceRun := none, breakPending := false })

/-! ### Entry to DOWN (04 R94) -/

/-- A report is abandoned (09 R186). -/
def abandonReport (s : State) : State :=
  match s.fu.inst with
  | some i =>
    if i.phase = .reporting then
      raiseFormState .closed i.number .abandoned .nobody
        (raise (.reportAbandoned i.number i.reportPos) (putInst none s))
    else s
  | none => s

/-- What entry to DOWN does to the directive parser (06 R131). -/
def parserDown : Parser → Parser
  | .intro => .text
  | .args _ _ => .text
  | .replyWait _ => .text
  | p => p

/-- Entry to DOWN with its cause; `noCarrier` is set for a connect-wait expiry (04 R76, R94). -/
def enterDown (cause : LinkCause) (noCarrier : Bool) (s : State) : State :=
  let old := s.link.state
  let s1 := applyPendingGain (s.onLink fun l =>
    { l with
      state := .down, role := .none, connectWait := none, qualify := none, holdover := none
      breakSend := .none, spaceRun := none, breakPending := false, level := none })
  let s2 := raise (.linkState .down cause) s1
  let s3 := if noCarrier then raise .noCarrier s2 else s2
  let s4 := { s3.onFramer framerDown with dp := parserDown s3.dp }
  if old = .qualify then removeCause .linkTraining s4
  else if old = .online ∨ old = .fade then abandonReport (commitRequest .far s4)
  else s4

/-! ### Starting a connection (04 R74 to R76) -/

/-- The link leaves DOWN in a role (04 R74 (3)). -/
def startConnection (role : Role) (cause : LinkCause) (s : State) : State :=
  linkEnter (if role = .answer then .answering else .listen) cause
    (s.onLink fun l =>
      { l with
        role := role
        rate := some (if s.opt 2 = 0 then 110 else if s.opt 2 = 1 then 150 else 300)
        connectWait := some (s.opt 16)
        level := none })

/-! ### Carrier (04 R73, R77, R78, R81, R82) -/

/-- The raw level within -600 to 0 (04 R73). -/
def clampLevel (x : Int) : Int := clampInt (-600) 0 x

/-- The event carrier present, with L as it stands. -/
def carrierRises (level : Int) (s : State) : State :=
  match s.link.state with
  | .listen | .answering =>
    addCause .linkTraining (linkEnter .qualify .carrier (s.onLink fun l =>
      { l with
        gain := if s.opt 10 = 0 then coarseGain level else l.gain
        qualify := some (s.opt 14) }))
  | .fade => onlineStarts (linkEnter .online .carrier (s.onLink fun l => { l with holdover := none }))
  | _ => s

/-- The event carrier absent. -/
def carrierFalls (s : State) : State :=
  match s.link.state with
  | .qualify =>
    removeCause .linkTraining
      (linkEnter (if s.link.role = .answer then .answering else .listen) .carrier
        (s.onLink fun l => { l with qualify := none }))
  | .online =>
    onlineEnds (linkEnter .fade .carrier (s.onLink fun l => { l with holdover := some (s.opt 15) }))
  | _ => s

/-- The receiver measures a level outside DOWN, and the carrier event it makes is taken (04 R73). -/
def measureLevel (level : Int) (s : State) : State :=
  let lv := clampLevel level
  let s1 := s.onLink fun l => { l with level := some lv }
  if s.opt 13 ≤ lv then carrierRises lv s1 else carrierFalls s1

/-- A write of field 13: if the new threshold changes whether the present L is at or above it, the
event is raised at the write (04 R73). -/
def thresholdWritten (old : Int) (s : State) : State :=
  match s.link.state, s.link.level with
  | .down, _ => s
  | _, none => s
  | _, some lv =>
    if lv < old ∧ s.opt 13 ≤ lv then carrierRises lv s
    else if old ≤ lv ∧ lv < s.opt 13 then carrierFalls s
    else s

/-- The qualify timer expires in QUALIFY (04 R79). -/
def qualifyDone (s : State) : State :=
  onlineStarts (removeCause .linkTraining (linkEnter .online .carrier (s.onLink fun l =>
    { l with connectWait := none, qualify := none, errCount := 0 })))

/-! ### Breaks (04 R88 to R92) -/

/-- A break send request can be accepted (04 R92). -/
def breakAccepted (s : State) : Bool := s.link.state = .online && s.link.breakSend = .none

/-- An accepted break send (04 R91 (1)). -/
def startBreakSend (s : State) : State :=
  s.onLink fun l => { l with breakSend := if s.framer.inFlight.isSome then .waiting else .sending }

/-- The FAR line and the FAR entries under a received break (01 R20). -/
def breakPrintPath (s : State) : State :=
  let s1 := { s with la := { s.la with far := emptyLine, farHoldMs := 0 } }
  let s2 := s1.onPq fun pq => { pq with waitList := pq.waitList.filter (· ≠ .far) }
  serveWaitList (purgeEntries [.far] s2).1

/-- A received break (04 R89): notice, RXF, parser, FAR text; the framer is ready for a start bit. -/
def receiveBreak (s : State) : State :=
  let s1 := raise .receivedBreak (s.onLink fun l => { l with spaceRun := none, breakPending := false })
  let s2 := { s1.onFramer fun fr => { fr with rx := .ready } with dp := .text }
  breakPrintPath (clearRxf s2)

end Sys2Proof.Machine
end

