-- ==== Sys2Proof/Machine/FormOps.lean ====
section
/-! DEFINITION. The requests to the form unit (09): open, field writes, keyed codes, field motion, commit,
cancel, and the report feeder. Each request takes its origin; a refused controller request is told by
its response, a refused far-end or keyed one by FORM STATE (09 R170). -/

namespace Sys2Proof.Machine

/-- The state of the form instance. -/
def formState (s : State) : FormState :=
  match s.fu.inst with
  | some i => i.phase
  | none => .closed

/-- The template number of the form instance, 0 when CLOSED. -/
def formNumber (s : State) : Nat :=
  match s.fu.inst with
  | some i => i.number
  | none => 0

/-- A refused request: the response code for the controller, FORM STATE for the others (09 R170). -/
def refuseForm (o : Origin) (number : Nat) (cause : FormCause) (code : RespCode) (s : State) :
    State × Resp :=
  (if o = .ctl then s else raiseFormState (formState s) number cause o s, .bare code)

/-- A field becomes the current field: the edit string becomes its value text (09 R173). -/
def FormInst.setCurrent (i : FormInst) (f : Option Field) : FormInst :=
  { i with
    current := f.map Field.id
    edit := match f with
      | some f => valueText f.kind (valueOf i.vals f.id)
      | none => [] }

/-- The prompt of the current field: label, ":", space, edit string (09 R171). -/
def promptText (t : Template) (i : FormInst) : List Byte :=
  match i.current with
  | some id => (match t.field? id with | some f => f.label | none => []) ++ [0x3A, 0x20] ++ i.edit
  | none => []

/-- A commit request for the KEY line, and the prompt with TOR field 36 = 1 and a current field
(09 R171, R175, R181). -/
def writePrompt (s : State) : State :=
  match s.fu.inst with
  | some i =>
    if s.opt 36 = 1 ∧ i.current.isSome then givePrompt (promptText s.formTemplate i) s
    else giveCommit s
  | none => s

/-- The totals computed again with the present rate, while a form is OPEN (09 R179, R180). -/
def recomputeForm (s : State) : State :=
  match s.fu.inst with
  | some i =>
    if i.phase = .opened then putInst (some (recompute s.formTemplate (s.opt 31) i)) s else s
  | none => s

/-! ### Open (09 R171) -/

/-- The instance created from a template (09 R171 (4)). -/
def newInstance (t : Template) (n : Nat) (rate : Int) : FormInst :=
  let i : FormInst :=
    { phase := .opened, number := n
      vals := t.fields.map fun f => ⟨f.id, f.default.getD .empty, .nobody⟩
      total := .num 0, tax := .num 0, grand := .num 0
      current := none, edit := [], report := [], reportPos := 0 }
  (recompute t rate i).setCurrent t.enterable.head?

/-- An open request for template `n`, 1 to 8. FORM STATE stands before a HOLD CHANGE that the KEY line's
append sets off (DESIGN CHOICE, log entry 20). -/
def openForm (o : Origin) (n : Nat) (s : State) : State × Resp :=
  if s.fu.inst.isSome then refuseForm o n .refusedState .state s
  else
    match s.fu.slots.getD (n - 1) none with
    | none => refuseForm o n .refusedAbsent .absent s
    | some t =>
      (writePrompt (raiseFormState .opened n .opened o
        (putInst (some (newInstance t n (s.opt 31))) s)), .bare .ok)

/-! ### Field writes (09 R176, R177) -/

/-- A written value replaces the value of a field of an OPEN form; the edit string of the current
field follows (09 R177). -/
def storeField (o : Origin) (f : Field) (v : Value) (i : FormInst) (s : State) : State :=
  let i1 := i.putValue f.id v o
  let i2 := if i.current = some f.id then { i1 with edit := valueText f.kind v } else i1
  raise (.fieldChanged f.id o) (recomputeForm (putInst (some i2) s))

/-- A whole value written to a field by the controller or the far end; the response code tells the
outcome (09 R177). -/
def writeField (o : Origin) (id : Nat) (bs : List Byte) (s : State) : State × RespCode :=
  match s.fu.inst with
  | some i =>
    if i.phase ≠ .opened then (s, .state)
    else
      match s.formTemplate.field? id with
      | none => (s, .absent)
      | some f =>
        if !f.kind.entered then (s, .range)
        else
          match parseWritten f.kind f.width bs with
          | none => (s, .range)
          | some v => (storeField o f v i s, .ok)
  | none => (s, .state)

/-! ### Keyed entry (09 R174) -/

/-- The echo of an accepted code (09 R174 (1)); of an 08h whose 20h the line refused, the 20h and what
stands behind it (01 R13, R16; log entry 23). -/
def echoCodes (begun : Bool) (code : Byte) : List Byte :=
  if code = 0x08#8 then (if begun then [0x20, 0x08] else [0x08, 0x20, 0x08]) else [code]

/-- Codes offered to the KEY line one after another; a refused code ends the echo. -/
def offerKeyCodes : List Byte → State → LineTake
  | [], s => .taken s
  | b :: bs, s =>
    match offerCode .key b .none s with
    | .taken s1 => offerKeyCodes bs s1
    | .refused s1 => .refused s1

/-- An accepted code changes the edit string, the value and the writer (09 R174 (3)). -/
def editField (f : Field) (code : Byte) (i : FormInst) (s : State) : State :=
  let edit := if code = 0x08#8 then i.edit.dropLast else i.edit ++ [code]
  let i1 := { i.putValue f.id (readEdit f.kind edit) .key with edit := edit }
  recomputeForm (putInst (some i1) s)

/-- A code routed to the form unit; false when the event is not taken because the KEY line did not
take a printable code of its echo, which then stays with the event (09 R174 (2), 01 R13). -/
def keyedCode (code : Byte) (s : State) : State × Bool :=
  match s.fu.inst with
  | some i =>
    if i.phase ≠ .opened then (s, true)
    else
      match i.current.bind s.formTemplate.field? with
      | none => (s, true)
      | some f =>
        if !acceptsCode f i.edit code then (s, true)
        else if s.opt 36 = 1 then
          match offerKeyCodes (echoCodes s.ks.echoBegun code) s with
          | .taken s1 => (editField f code i s1, true)
          | .refused s1 => (s1.onKs fun ks => { ks with echoBegun := decide (code = 0x08#8) }, false)
        else (editField f code i s, true)
  | none => (s, true)

/-! ### Field motion (09 R175) -/

/-- The field after the one of an id in a list, the first after the last. -/
def fieldAfter (fs : List Field) (id : Nat) : Option Field :=
  match (fs.dropWhile fun f => f.id ≠ id).tail.head? with
  | some f => some f
  | none => fs.head?

/-- FIELD NEXT (`back` false) and FIELD BACK. -/
def moveField (back : Bool) (s : State) : State :=
  match s.fu.inst with
  | some i =>
    match i.phase, i.current with
    | .opened, some id =>
      let t := s.formTemplate
      let fs := if back then t.enterable.reverse else t.enterable
      writePrompt (putInst (some (i.setCurrent (fieldAfter fs id))) s)
    | _, _ => s
  | none => s

/-! ### Commit (09 R181 to R184) -/

/-- The first field in id order that is required and EMPTY, or OVERFLOW (09 R181 (3)). -/
def failingField (t : Template) (vals : List FieldVal) : Option Field :=
  t.fields.find? fun f =>
    (f.required && valueOf vals f.id == .empty) || valueOf vals f.id == .overflow

/-- An accepted commit (09 R184). FORM STATE stands behind a HOLD CHANGE that the appends to the queue
set off (DESIGN CHOICE, log entry 20). -/
def acceptCommit (o : Origin) (i : FormInst) (s : State) : State :=
  let s1 := giveCommit s
  let block := formBlock s1.formTemplate i.vals (s1.opt 19).toNat (s1.opt 30).toNat (s1.opt 29 = 1)
  match handOverBlock block s1 with
  | (s2, true) => formAppended o s2
  | (s2, false) =>
    raiseFormState .pending i.number .pending o (putInst (some { i with phase := .pending }) s2)

/-- A rejected commit: an enterable failing field becomes the current field (09 R181 (3)). -/
def rejectCommit (f : Field) (i : FormInst) (s : State) : State :=
  if f.enterable ∧ i.current ≠ some f.id then
    writePrompt (putInst (some (i.setCurrent (some f))) s)
  else s

/-- A commit request (09 R181). FORM REJECTED stands behind a HOLD CHANGE that the KEY line's append
sets off (DESIGN CHOICE, log entry 20). -/
def commitForm (o : Origin) (s : State) : State × Resp :=
  match s.fu.inst with
  | some i =>
    if i.phase ≠ .opened then refuseForm o i.number .refusedState .state s
    else
      match failingField s.formTemplate i.vals with
      | some f =>
        let s1 := rejectCommit f i s
        (if o = .ctl then s1 else raise (.formRejected f.id o) s1, ⟨.reject, [byteOf f.id]⟩)
      | none => (acceptCommit o i s, .bare .ok)
  | none => refuseForm o 0 .refusedState .state s

/-! ### Cancel (09 R187) -/

/-- A cancel request. FORM STATE stands before what the withdrawal of the pending block sets off, such as
a BELL or a HOLD CHANGE (DESIGN CHOICE, log entry 20). -/
def cancelForm (o : Origin) (s : State) : State × Resp :=
  match formState s with
  | .opened => (raiseFormState .closed 0 .cancelled o (putInst none s), .bare .ok)
  | .pending =>
    (withdrawBlock (raiseFormState .closed 0 .cancelled o (putInst none s)), .bare .ok)
  | _ => refuseForm o (formNumber s) .refusedState .state s

/-! ### Report feeder (09 R185) -/

/-- A directive reply is waiting for room (05 R110). -/
def replyWaits (s : State) : Bool :=
  match s.dp with
  | .replyWait _ => true
  | _ => false

/-- The feeder's next byte joins TXQ when it fits; after the last the form closes. -/
def feedReport (s : State) : State :=
  match s.fu.inst with
  | some i =>
    match i.phase, i.report.drop i.reportPos with
    | .reporting, b :: rest =>
      if (s.link.state = .online ∨ s.link.state = .fade) ∧ !replyWaits s ∧ dataFits 1 s.framer then
        let s1 := addData [b] s
        if rest.isEmpty then raiseFormState .closed i.number .reportSent .nobody (putInst none s1)
        else putInst (some { i with reportPos := i.reportPos + 1 }) s1
      else s
    | _, _ => s
  | none => s

end Sys2Proof.Machine
end

