-- ==== Sys2Proof/Machine/Router.lean ====
section
/-! DEFINITION. The key router (08): layer and entry of an event, readiness of its destinations, delivery,
actions, and the examination of the KQ head. -/

namespace Sys2Proof.Machine

/-! ### Layer and entry (08 R151, R152) -/

/-- The layer a modifier snapshot selects: FUNC, else CTRL, else SHIFT, else base. -/
def Mods.layer (m : Mods) : Layer :=
  if m.func then .func else if m.ctrl then .ctrl else if m.shift then .shift else .base

/-- The keymap entry of a key in a layer. -/
def KeyRouter.entry (kr : KeyRouter) (l : Layer) (k : Nat) : KeyEntry :=
  kr.keymap.getD (80 * l.num + k) ⟨.nothing, false⟩

/-- The keymap with one entry replaced. -/
def KeyRouter.putEntry (kr : KeyRouter) (l : Nat) (k : Nat) (e : KeyEntry) : KeyRouter :=
  { kr with keymap := kr.keymap.set (80 * l + k) e }

/-- The keyboard lock is set (TOR field 33). -/
def locked (s : State) : Bool := s.opt 33 = 1

/-- The KEY line holds no waiting entries (08 R156). -/
def keyLineFree (s : State) : Bool := (s.line .key).waiting.isEmpty

/-! ### Codes (08 R155 to R157) -/

/-- The far end is a destination of a code (08 R155). -/
def codeToFar (s : State) : Bool :=
  !s.kr.localFlag && (s.opt 32 = 0 || s.opt 32 = 2) && s.link.state = .online

/-- The controller is a destination of a code (08 R155). -/
def codeToController (s : State) : Bool := s.kr.localFlag || s.opt 32 = 1 || s.opt 32 = 2

/-- The echo is a destination of a code (08 R155). -/
def codeToEcho (s : State) : Bool := !s.kr.localFlag && s.opt 1 = 1

/-- Every destination of a code is ready (08 R156). -/
def codeReady (s : State) : Bool :=
  (!codeToFar s || (!replyWaits s && dataFits 1 s.framer)) && (!codeToEcho s || keyLineFree s)

/-- The TXQ byte and the KEY CODE notice of a code, behind its echo (08 R156). -/
def sendCode (toFar toCtl : Bool) (b : Byte) (ev : KeyEvent) (s : State) : State :=
  let s1 := if toFar then addData [b] s else s
  if toCtl then raise (.keyCode ev.key ev.kind ev.mods.layer b) s1 else s1

/-- A CODE event with the form CLOSED and the lock clear; false when it is not taken. -/
def routeCode (b : Byte) (ev : KeyEvent) (s : State) : State × Bool :=
  if !codeReady s then (s, false)
  else if codeToEcho s then
    match offerCode .key b .none s with
    | .taken s1 => (sendCode (codeToFar s) (codeToController s) b ev s1, true)
    | .refused s1 => (s1, false)
  else (sendCode (codeToFar s) (codeToController s) b ev s, true)

/-- A CODE event with a form instance that is not CLOSED (08 R157). -/
def routeFormCode (b : Byte) (s : State) : State × Bool :=
  if formState s = .opened ∧ s.opt 36 = 1 ∧ !keyLineFree s then (s, false) else keyedCode b s

/-! ### Actions (08 R158 to R160) -/

/-- The FEED key action (03 R65). -/
def feedKey (s : State) : State :=
  let starts :=
    match s.pe.engine with
    | .idle => true
    | .held => s.pe.hold.feedAllowed && (s.pe.hold.paperOut || s.pe.hold.stopped)
    | _ => false
  if starts then engineDecide (s.onPe fun pe => { pe with directFeed := some Config.formFeedRows })
  else s

/-- The ORIG or ANS key action (04 R75; 11 R207). -/
def startKey (role : Role) (s : State) : State :=
  if s.link.state = .down ∧ !linkStartBlocked s then startConnection role .key s else s

/-- The DROP key action (04 R93). -/
def dropKey (s : State) : State := if s.link.state = .down then s else enterDown .key false s

/-- A form action (08 R160): the lock discards it and its readiness may hold it back. -/
def Action.isForm : Action → Bool
  | .fieldNext => true | .fieldBack => true | .formEnter => true | .formCancel => true
  | .openForm _ => true
  | _ => false

/-- The owning block takes or discards the action (08 R158 to R160). -/
def act (a : Action) (s : State) : State :=
  match a with
  | .breakKey => if breakAccepted s then startBreakSend s else s
  | .feedKey => feedKey s
  | .orig => startKey .originate s
  | .ans => startKey .answer s
  | .drop => dropKey s
  | .fieldNext => moveField false s
  | .fieldBack => moveField true s
  | .formEnter => (commitForm .key s).1
  | .formCancel => (cancelForm .key s).1
  | .openForm n => (openForm .key n s).1
  | .localKey => { s with kr := { s.kr with localFlag := !s.kr.localFlag } }
  | .shift => s
  | .ctrl => s
  | .func => s

/-- The action is ready: one that writes to the KEY line in the form state it finds waits for that
line (08 R160). -/
def actionReady (a : Action) (s : State) : Bool :=
  match a with
  | .openForm _ => formState s ≠ .closed || keyLineFree s
  | .fieldNext => formState s ≠ .opened || keyLineFree s
  | .fieldBack => formState s ≠ .opened || keyLineFree s
  | .formEnter => formState s ≠ .opened || keyLineFree s
  | _ => true

/-- An ACTION event: KEY ACTION is raised, and the owner acts (08 R154, R159 to R161; the order of the
notices is log entry 20). -/
def routeAction (a : Action) (ev : KeyEvent) (s : State) : State × Bool :=
  if a.isForm && locked s then (s, true)
  else if !actionReady a s then (s, false)
  else (act a (raise (.keyAction ev.key ev.kind ev.mods.layer a) s), true)

/-! ### Examination (08 R153) -/

/-- The event is looked up and delivered if every destination is ready; false when it stays at the
head (08 R152 to R160). -/
def routeEvent (ev : KeyEvent) (s : State) : State × Bool :=
  match (s.kr.entry ev.mods.layer ev.key).kind with
  | .nothing => (s, true)
  | .code b =>
    if locked s then (s, true)
    else if formState s = .closed then routeCode b ev s
    else routeFormCode b s
  | .action a => routeAction a ev s

/-- The head event leaves KQ with what its echo has left, and the overrun flag is cleared (07 R144,
08 R153). -/
def dropEvent (ks : KeyScanner) : KeyScanner :=
  { ks with kq := ks.kq.tail, kqOverrun := false, echoBegun := false }

/-- Events are taken one after another until KQ is empty or its head is not taken; `fuel` bounds the
events taken. -/
def examineHead : (fuel : Nat) → State → State
  | 0, s => s
  | fuel + 1, s =>
    match s.ks.kq with
    | [] => s
    | ev :: _ =>
      match routeEvent ev s with
      | (s1, true) => examineHead fuel (s1.onKs dropEvent)
      | (s1, false) => s1

/-- The router examines the KQ head event (08 R153). -/
def examine (s : State) : State := examineHead s.ks.kq.length s

end Sys2Proof.Machine
end

