-- ==== Sys2Proof/Machine/Keyboard.lean ====
section
/-! DEFINITION. The keyboard scanner (07): readings, debounce, ghosts, the down list, modifiers, key events and
the typematic timer. -/

namespace Sys2Proof.Machine

/-- A key of the scanner. -/
def KeyScanner.key (ks : KeyScanner) (k : Nat) : KeyState := ks.keys.getD k keyReset

/-- The scanner with one key replaced. -/
def KeyScanner.putKey (ks : KeyScanner) (k : Nat) (st : KeyState) : KeyScanner :=
  { ks with keys := ks.keys.set k st }

/-- The scanner with one key's debounce state replaced. -/
def KeyScanner.setDeb (ks : KeyScanner) (k : Nat) (d : Debounce) : KeyScanner :=
  ks.putKey k { ks.key k with deb := d }

/-- A key down: DOWN or BREAK-PENDING (07 R136). -/
def KeyScanner.isDown (ks : KeyScanner) (k : Nat) : Bool :=
  match (ks.key k).deb with
  | .down => true
  | .breakPending _ => true
  | _ => false

/-- The key stands at the fourth corner of a rectangle of keys down (07 R138). -/
def ghost (ks : KeyScanner) (k : Nat) : Bool :=
  let r := k / 10
  let c := k % 10
  (List.range 8).any fun r' => (List.range 10).any fun c' =>
    r' != r && c' != c && ks.isDown (10 * r + c') && ks.isDown (10 * r' + c') && ks.isDown (10 * r' + c)

/-- The modifier state: an item is held while a key of its kind is down (07 R142; log entry 27). -/
def modState (ks : KeyScanner) : Mods where
  shift := ks.keys.any fun k => k.modKind = some .shift
  ctrl := ks.keys.any fun k => k.modKind = some .ctrl
  func := ks.keys.any fun k => k.modKind = some .func

/-- The modifier kind that an entry gives a key (07 R142). -/
def KeyEntry.modifier (e : KeyEntry) : Option ModKind :=
  match e.kind with
  | .action .shift => some .shift
  | .action .ctrl => some .ctrl
  | .action .func => some .func
  | _ => none

/-- An event joins KQ, or meets a full one (07 R144). -/
def enqueue (k : Nat) (kind : KeyKind) (s : State) : State :=
  if s.ks.kq.length < Config.kqCapacity then
    s.onKs fun ks => { ks with kq := ks.kq ++ [⟨k, kind, modState ks⟩] }
  else if s.ks.kqOverrun then s
  else raise (.keyOverrun k kind) (s.onKs fun ks => { ks with kqOverrun := true })

/-- The typematic timer starts with the newest entry of the down list as its subject if that repeats,
else it stops; the due flag is cleared (07 R145). -/
def startTypematic (delayUs : Int) (ks : KeyScanner) : KeyScanner :=
  { ks with
    due := false
    typematic :=
      match ks.downList.getLast? with
      | some d => if d.rep then some ⟨d.key, true, delayUs⟩ else none
      | none => none }

/-- The typematic delay in microseconds (07 R145). -/
def typematicDelay (s : State) : Int := 10000 * s.opt 34

/-- The typematic period in microseconds (07 R145). -/
def typematicPeriod (s : State) : Int := roundDiv 1000000 (s.opt 35)

/-- A make accepted into the down list (07 R137 (4), R141, R143, R145). -/
def acceptMake (k : Nat) (s : State) : State :=
  let rep := (s.kr.entry (modState s.ks).layer k).rep
  let s1 := s.onKs fun ks => { ks.setDeb k .down with downList := ks.downList ++ [⟨k, rep⟩] }
  (enqueue k .make s1).onKs (startTypematic (typematicDelay s))

/-- The acceptance test of a make (07 R137). -/
def testMake (k : Nat) (s : State) : State :=
  if ghost s.ks k then s.onKs fun ks => ks.setDeb k (.makePending 3)
  else
    match (s.kr.entry .base k).modifier with
    | some m => s.onKs fun ks => ks.putKey k { ks.key k with deb := .down, modKind := some m }
    | none =>
      if Config.downCapacity ≤ s.ks.downList.length then s.onKs fun ks => ks.setDeb k (.makePending 3)
      else acceptMake k s

/-- A break is accepted (07 R140, R145 (2), (3)). -/
def acceptBreak (k : Nat) (s : State) : State :=
  let newest := s.ks.downList.getLast?.map DownKey.key = some k
  let s1 := s.onKs fun ks =>
    { ks.putKey k { ks.key k with deb := .up, modKind := none } with
      downList := ks.downList.filter fun d => d.key ≠ k }
  if newest then s1.onKs (startTypematic (typematicDelay s)) else s1

/-- A key takes its reading (Table 7-1). -/
def takeReading (k : Nat) (closed : Bool) (s : State) : State :=
  match (s.ks.key k).deb, closed with
  | .up, true =>
    if (s.ks.key k).releaseRequired then s else s.onKs fun ks => ks.setDeb k (.makePending 1)
  | .up, false => s.onKs fun ks => ks.putKey k { ks.key k with releaseRequired := false }
  | .makePending n, true => if n ≤ 1 then s.onKs fun ks => ks.setDeb k (.makePending 2) else testMake k s
  | .makePending _, false => s.onKs fun ks => ks.setDeb k .up
  | .down, true => s
  | .down, false => s.onKs fun ks => ks.setDeb k (.breakPending 1)
  | .breakPending _, true => s.onKs fun ks => ks.setDeb k .down
  | .breakPending n, false =>
    if n ≤ 1 then s.onKs fun ks => ks.setDeb k (.breakPending 2) else acceptBreak k s

/-- The readings of a row in column order, column 0 first (07 R135). -/
def takeReadings (r : Nat) (closed : BitVec 10) (s : State) : State :=
  (List.range 10).foldl (fun s c => takeReading (10 * r + c) (closed.getLsbD c) s) s

/-- The typematic test at the end of a scan of row `r` (07 R146). -/
def typematicTest (r : Nat) (closed : BitVec 10) (s : State) : State :=
  match s.ks.typematic with
  | some t =>
    if s.ks.due ∧ t.key / 10 = r ∧ (s.ks.key t.key).deb = .down ∧ closed.getLsbD (t.key % 10) then
      enqueue t.key .repeated (s.onKs fun ks => { ks with due := false })
    else s
  | none => s

/-- The sense lines with all rows driven: a line reads closed when any key of its column is closed
(07 R148). -/
def columnsClosed (all : BitVec 80) : BitVec 10 :=
  (List.range 8).foldl (fun w r => w ||| (all >>> (10 * r)).setWidth 10) 0

/-- A granted scan: the pattern in the key row latch, the end of the transfer, the row pointer and the
readings (07 R133 to R135; 03 R60). -/
def rowScan (closed : BitVec 10) (s : State) : State :=
  if s.pe.bus = .scan then
    let r := s.ks.rowPtr
    let s1 := (s.onPe releaseBus).onKs fun ks =>
      { ks with keyLatch := rowPattern r, rowPtr := (r + 1) % 8 }
    typematicTest r closed (takeReadings r closed s1)
  else s

/-- The scanner asks for a scan while scanning runs (07 R134). -/
def askScan (s : State) : State := if scanningRuns s then s.onPe requestScan else s

/-- The typematic delay or period runs out (07 R146). -/
def typematicRunsOut (s : State) : State :=
  match s.ks.typematic with
  | some t => s.onKs fun ks =>
      { ks with due := true, typematic := some { t with inDelay := false, timeUs := typematicPeriod s } }
  | none => s

end Sys2Proof.Machine
end

