-- ==== Sys2Proof/Machine/OptionWrite.lean ====
section
/-! DEFINITION. Writes of the option record (10) with what they set off at once in other blocks
(Table 10-2). -/

namespace Sys2Proof.Machine

/-- A write of field 6 (05 R114). -/
def flowWritten (old : Int) (s : State) : State :=
  if old = 0 ∧ s.opt 6 = 1 then pauseTest s
  else if old = 1 ∧ s.opt 6 = 0 then queueResume s
  else s

/-- A write of field 9 (05 R107, R114). -/
def farPauseWritten (old : Int) (s : State) : State :=
  if old = 1 ∧ s.opt 9 = 0 then txPump (s.onFramer fun fr => { fr with farPaused := false }) else s

/-- A write of field 21: a value below the count already reached commits the FAR line (01 R17). -/
def holdTimeWritten (s : State) : State :=
  if farHoldRuns s ∧ 1000 * s.opt 21 < s.la.farHoldMs then commitRequest .far s else s

/-- What a write of field `n` sets off at once; `old` is the value it replaced (Table 10-2). -/
def optionActs (n : Nat) (old : Int) (s : State) : State :=
  match n with
  | 1 => examine s
  | 6 => flowWritten old s
  | 9 => farPauseWritten old s
  | 10 => gainChange s
  | 11 => if s.opt 10 = 1 then gainChange s else s
  | 12 => if s.opt 12 = 1 then applyPendingGain s else s
  | 13 => thresholdWritten old s
  | 18 => clampColumns s
  | 21 => holdTimeWritten s
  | 31 => recomputeForm s
  | 32 => examine s
  | 33 => examine s
  | 36 => examine s
  | _ => s

/-- A value brought into range is stored in field `n`, and what the write sets off at once is done. -/
def storeNumber (n : Nat) (x : Int) (s : State) : State :=
  optionActs n (s.opt n) { s with tor := s.tor.put n x }

/-- The answerback stored, cut to 20 codes (10 R194). -/
def storeAnswerback (bs : List Byte) (s : State) : State :=
  { s with tor := { s.tor with answerback := cutAnswerback bs } }

/-- The far-writable set stored (10 R193). -/
def storeFarSet (w : BitVec 40) (s : State) : State := { s with tor := { s.tor with farSet := w } }

/-- A write of field 31 is not taken while the values of the form are frozen, in COMMIT PENDING and
REPORTING (09 R180, 10 R191 (3)). A commit that closes the form at once leaves it CLOSED, where the
write is taken (DESIGN CHOICE, log entry 38). -/
def rateFrozen (n : Nat) (s : State) : Bool :=
  n = 31 && (formState s = .pending || formState s = .reporting)

/-- The store is LOADING or SAVING. -/
def storeBusy (s : State) : Bool := s.store.state.isLoading || s.store.state.isSaving

/-- A value length that fits a class (10 R191 (2)). -/
def lengthFits (c : OptClass) (v : List Byte) : Bool :=
  match c with
  | .numeric _ _ => v.length = 2
  | .enumerated _ _ => v.length = 2
  | .text => v.length ≤ 62
  | .set => v.length = 5

/-- Tests (4) and (5) of 10 R191 on a value whose length fits. -/
def setOptionValue (id : Byte) (c : OptClass) (v : List Byte) (s : State) : State × Resp :=
  match c with
  | .text =>
    if v.all answerbackCode then (storeAnswerback v s, ⟨.ok, id :: cutAnswerback v⟩)
    else (s, .bare .range)
  | .set =>
    let w := setOfBytes v
    if setWithin w then (storeFarSet w s, ⟨.ok, id :: setBytes w⟩) else (s, .bare .range)
  | _ =>
    match bringIntoRange id.toNat (signed16 (v.getD 0 0) (v.getD 1 0)) with
    | some x => (storeNumber id.toNat x s, ⟨.ok, id :: bytes16 x⟩)
    | none => (s, .bare .range)

/-- SET OPTION (10 R191). A payload without a field id answers RANGE (DESIGN CHOICE, log entry 37). -/
def cmdSetOption (p : List Byte) (s : State) : State × Resp :=
  if storeBusy s then (s, .bare .busy)
  else
    match p with
    | [] => (s, .bare .range)
    | id :: v =>
      match optClass id.toNat with
      | none => (s, .bare .range)
      | some c =>
        if !lengthFits c v then (s, .bare .range)
        else if rateFrozen id.toNat s then (s, .bare .state)
        else setOptionValue id c v s

/-- GET OPTION (10 R192). -/
def cmdGetOption (p : List Byte) (s : State) : State × Resp :=
  match p with
  | [id] =>
    if (optClass id.toNat).isSome then (s, ⟨.ok, id :: s.tor.valueBytes id.toNat⟩) else (s, .bare .range)
  | _ => (s, .bare .range)

/-- FAR WRITE REFUSED with the value as received, cut to 20 codes (10 R195). -/
def refuseFarWrite (w : FarWrite) (r : RefuseReason) (s : State) : State :=
  raise (.farWriteRefused w.field r (w.chars.take 20)) s

/-- A far-end write handed to the record (10 R195). -/
def farWrite (w : FarWrite) (s : State) : State :=
  if w.field = 39 ∨ !s.tor.farWritable w.field then refuseFarWrite w .set s
  else if rateFrozen w.field s then refuseFarWrite w .state s
  else if w.field = 38 then
    raise (.optionChanged 38 (cutAnswerback w.chars)) (storeAnswerback w.chars s)
  else
    match bringIntoRange w.field (signedDigits w.chars) with
    | some x => raise (.optionChanged w.field (bytes16 x)) (storeNumber w.field x s)
    | none => refuseFarWrite w .range s

end Sys2Proof.Machine
end

