-- ==== Sys2Proof/Machine/Directives.lean ====
section
/-! DEFINITION. The directive parser (06): grammar, completion, replies, and the handover of a held option
write. -/

namespace Sys2Proof.Machine

/-- The introducer byte (06 R117). -/
def introducer : Byte := 0x1C#8

/-- The directive of a letter (06 R119). -/
def Directive.ofByte? (b : Byte) : Option Directive :=
  match b.toNat with
  | 0x4F => some .o | 0x51 => some .q | 0x41 => some .a | 0x4B => some .k
  | 0x46 => some .f | 0x56 => some .v | 0x47 => some .g | 0x43 => some .c
  | 0x58 => some .x | 0x55 => some .u | 0x57 => some .w | 0x4C => some .l
  | _ => none

/-- The directive takes no arguments (Table 6-1). -/
def Directive.bare : Directive → Bool
  | .q => true | .a => true | .c => true | .x => true | .l => true | _ => false

/-! ### Argument forms (06 R120, R122) -/

/-- How the next argument byte stands to its form. -/
inductive ArgFit where
  | more | done | bad
  deriving DecidableEq, Repr

/-- A code of directive text: 20h to 7Eh other than ";" (06 R120). -/
def directiveText (b : Byte) : Bool := 0x20 ≤ b.toNat && b.toNat ≤ 0x7E && b ≠ 0x3B#8

/-- The number of the first two argument bytes. -/
def fieldNumber (bs : List Byte) : Nat := digitsVal (bs.take 2)

/-- A digit of a field number; the second is tested against the range 1 to `hi`. -/
def fitNumber (hi : Nat) (bs : List Byte) (b : Byte) (onDone : ArgFit) : ArgFit :=
  if !isDigit b then .bad
  else if bs.isEmpty then .more
  else
    let n := digitsVal (bs.take 1 ++ [b])
    if 1 ≤ n ∧ n ≤ hi then onDone else .bad

/-- A byte of text ended by ";". -/
def fitText (b : Byte) : ArgFit := if b = 0x3B#8 then .done else if directiveText b then .more else .bad

/-- A byte of a numeric O value behind the value's bytes so far. -/
def fitValue (v : List Byte) (b : Byte) : ArgFit :=
  if b = 0x3B#8 then (if v.any isDigit then .done else .bad)
  else if b = 0x2D#8 then (if v.isEmpty then .more else .bad)
  else if isDigit b then .more
  else .bad

/-- A single digit within `lo` to `hi`. -/
def fitDigit (lo hi : Nat) (b : Byte) : ArgFit :=
  if isDigit b ∧ lo ≤ digitVal b ∧ digitVal b ≤ hi then .done else .bad

/-- The next argument byte against the form of the letter (Table 6-1). -/
def argFit (d : Directive) (bs : List Byte) (b : Byte) : ArgFit :=
  match d with
  | .o =>
    if bs.length < 2 then fitNumber 39 bs b .more
    else if fieldNumber bs = 38 then fitText b
    else fitValue (bs.drop 2) b
  | .v => if bs.length < 2 then fitNumber 16 bs b .more else fitText b
  | .g => fitNumber 16 bs b .done
  | .k => fitDigit 0 1 b
  | .f => fitDigit 1 8 b
  | .u => fitDigit 0 1 b
  | .w => fitDigit 0 1 b
  | _ => .bad

/-! ### Replies (06 R126 to R129) -/

/-- The engine letter (03 R38); DORMANT and WAKING have none (06 R127; log entry 32). -/
def EngineState.letter : EngineState → Byte
  | .idle => 0x49 | .printing => 0x50 | .feeding => 0x46 | .held => 0x48
  | .dormant => Config.engineLetter | .waking => Config.engineLetter

/-- The form letter: a capital, or small under the keyboard lock (06 R127). -/
def formLetter (f : FormState) (lock : Bool) : Byte :=
  let c : Byte := match f with
    | .closed => 0x43 | .opened => 0x4F | .pending => 0x57 | .reporting => 0x52
  if lock then c + 0x20#8 else c

/-- The status reply to Q (Table 6-3). -/
def statusReply (s : State) : List Byte :=
  [introducer, 0x71, s.pe.engine.letter] ++ twoDigits s.pq.entries.length
    ++ [formLetter (formState s) (locked s)] ++ twoDigits s.link.errCount ++ [0x0D]

/-- The answerback reply to A (06 R128). -/
def answerbackReply (s : State) : List Byte := [introducer, 0x61] ++ s.tor.answerback ++ [0x0D]

/-- The reply to G nn (06 R129). -/
def fieldReply (nn : List Byte) (s : State) : List Byte :=
  match s.fu.inst, s.formTemplate.field? (digitsVal nn) with
  | some i, some f => [introducer, 0x67] ++ nn ++ valueText f.kind (valueOf i.vals f.id) ++ [0x0D]
  | _, _ => [introducer, 0x6E] ++ nn ++ [0x0D]

/-- TXQ takes data bytes: the link is ONLINE or FADE (05 R110). -/
def txqOpen (s : State) : Bool := s.link.state = .online || s.link.state = .fade

/-- A formed reply is added, or waits, or is discarded (06 R126; log entry 31). -/
def giveReply (r : List Byte) (s : State) : State :=
  if !txqOpen s then s
  else if dataFits r.length s.framer then addData r s
  else { s with dp := .replyWait r }

/-- A reply in REPLY WAIT is added whole when it fits (06 R126 (2)). -/
def addReply (s : State) : State :=
  match s.dp with
  | .replyWait r =>
    if txqOpen s ∧ dataFits r.length s.framer then addData r { s with dp := .text } else s
  | _ => s

/-! ### Carrying out a directive (06 R124, R125) -/

/-- A far-end option write is handed over, or held while the store is LOADING or SAVING (06 R125). -/
def handOption (w : FarWrite) (s : State) : State :=
  if storeBusy s then { s with dp := .storeWait w } else farWrite w s

/-- The held write is handed over when the store returns to IDLE (06 R125). -/
def storeHandover (s : State) : State :=
  match s.dp with
  | .storeWait w => farWrite w { s with dp := .text }
  | _ => s

/-- An attribute code offered to the FAR line (06 R118, R124). -/
def offerAttribute (code : Byte) (s : State) : State :=
  offerHeld { s with dp := .offer code .none false }

/-- A complete directive with its argument bytes, the parser standing in TEXT (Table 6-2). -/
def carryOut (d : Directive) (bs : List Byte) (s : State) : State :=
  match d with
  | .o => handOption ⟨fieldNumber bs, (bs.drop 2).dropLast⟩ s
  | .k => handOption ⟨33, bs⟩ s
  | .f => (openForm .far (digitsVal bs) s).1
  | .v => (writeField .far (fieldNumber bs) (bs.drop 2).dropLast s).1
  | .c => (commitForm .far s).1
  | .x => (cancelForm .far s).1
  | .u => offerAttribute (if digitsVal bs = 1 then 0x16#8 else 0x17#8) s
  | .w => offerAttribute (if digitsVal bs = 1 then 0x0E#8 else 0x0F#8) s
  | .l => commitRequest .far s
  | .q => giveReply (statusReply s) s
  | .a => giveReply (answerbackReply s) s
  | .g => giveReply (fieldReply bs s) s

/-! ### Taking an entry (06 R117, R119 to R122) -/

/-- Bytes of the partial directive buffer in ARGS: 1Ch, the letter, the arguments (06 R116). -/
def partialLength (bs : List Byte) : Nat := 2 + bs.length

/-- In TEXT: an introducer, or text offered to the FAR line (06 R117). -/
def takeText (e : RxEntry) (s : State) : State :=
  if e.code = introducer ∧ e.err = .none then { removeRxfHead s with dp := .intro }
  else offerHeld { s with dp := .offer e.code e.err true }

/-- In INTRO: the letter (06 R119). -/
def takeLetter (e : RxEntry) (s : State) : State :=
  if e.err ≠ .none then { s with dp := .text }
  else if e.code = introducer then { s with dp := .intro }
  else
    match Directive.ofByte? e.code with
    | none => { s with dp := .text }
    | some d => if d.bare then carryOut d [] { s with dp := .text } else { s with dp := .args d [] }

/-- In ARGS: an argument byte (06 R120 to R122). -/
def takeArg (d : Directive) (bs : List Byte) (e : RxEntry) (s : State) : State :=
  if e.err ≠ .none then { s with dp := .text }
  else if e.code = introducer then { s with dp := .intro }
  else if 40 ≤ partialLength bs then { s with dp := .text }
  else
    match argFit d bs e.code with
    | .bad => { s with dp := .text }
    | .more => { s with dp := .args d (bs ++ [e.code]) }
    | .done => carryOut d (bs ++ [e.code]) { s with dp := .text }

/-- The parser takes the RXF head entry, in the three states in which it takes one (06 R116). -/
def takeDirectiveByte (s : State) : State :=
  match s.framer.rxf with
  | [] => s
  | e :: _ =>
    match s.dp with
    | .text => takeText e s
    | .intro => takeLetter e (removeRxfHead s)
    | .args d bs => takeArg d bs e (removeRxfHead s)
    | _ => s

/-- The directive timer expires: it runs in INTRO and ARGS only (06 R123). -/
def directiveTimedOut (s : State) : State :=
  match s.dp with
  | .intro => { s with dp := .text }
  | .args _ _ => { s with dp := .text }
  | _ => s

end Sys2Proof.Machine
end

