-- ==== Sys2Proof/Machine/Memory.lean ====
section
/-! DEFINITION. The serial EEPROM as an addressed memory: a list of address and byte, addresses strictly
rising, no entry equal to what an unlisted address reads as. -/

namespace Sys2Proof.Machine

/-- What an address that the list does not name reads as: FFh, an erased EEPROM cell (DESIGN CHOICE,
log entry 8). -/
def erasedByte : Byte := 0xFF#8

/-- The byte at an address. -/
def memRead : Memory → Nat → Byte
  | [], _ => erasedByte
  | (a, b) :: m, x => if a = x then b else memRead m x

/-- Writing one byte; writing the erased value removes the entry. -/
def memWrite : Memory → Nat → Byte → Memory
  | [], x, v => if v = erasedByte then [] else [(x, v)]
  | (a, b) :: m, x, v =>
    if x < a then (if v = erasedByte then (a, b) :: m else (x, v) :: (a, b) :: m)
    else if x = a then (if v = erasedByte then m else (x, v) :: m)
    else (a, b) :: memWrite m x v

/-- The canonical form. -/
def Memory.wf : Memory → Bool
  | [] => true
  | (a, b) :: m =>
    b != erasedByte && (match m with | [] => true | (c, _) :: _ => a < c) && Memory.wf m

/-- Writing bytes at rising addresses. -/
def memWriteList : Memory → Nat → List Byte → Memory
  | m, _, [] => m
  | m, a, b :: bs => memWriteList (memWrite m a b) (a + 1) bs

/-- `n` bytes from an address on. -/
def memReadRange (m : Memory) (a : Nat) : Nat → List Byte
  | 0 => []
  | n + 1 => memRead m a :: memReadRange m (a + 1) n

end Sys2Proof.Machine
end

