-- ==== Sys2Proof/Machine/Store.lean ====
section
/-! DEFINITION. The store interface (11 R203 to R205): the image, the three stages of a save, and the end of a
load. -/

namespace Sys2Proof.Machine

/-! ### The image (Tables 11-5 and 11-6) -/

/-- The mark of a valid image (Table 11-6). -/
def imageMark : Byte := 0xA6#8
/-- Bytes of the image. -/
def imageSize : Nat := 6480
/-- First address of the template area. -/
def templateBase : Nat := 2384
/-- Bytes of the store (11 R203: addresses 0 to 8191). -/
def storeSize : Nat := 8192

/-- The loaded flags of eight glyphs as a byte, bit i for the i-th. -/
def flagByte (gs : List (Option (List Byte))) : Byte :=
  byteOf (gs.foldr (fun g n => 2 * n + (if g.isSome then 1 else 0)) 0)

/-- The four flag bytes of a font's table (Table 11-6). -/
def flagBytes (gs : List (Option (List Byte))) : List Byte :=
  (List.range 4).map fun b => flagByte ((gs.drop (8 * b)).take 8)

/-- Bytes cut or filled with 00h to `n`. -/
def fitBytes (n : Nat) (bs : List Byte) : List Byte := (bs ++ List.replicate (n - bs.length) 0).take n

/-- The glyph area of a font: 00h for an unloaded glyph (11 R205). -/
def glyphBytes (f : Font) (gs : List (Option (List Byte))) : List Byte :=
  gs.flatMap fun g => fitBytes f.bitmapBytes (g.getD [])

/-- The slot image at slot place `i` (0 to 7): the template's image or FFh, then what the spec leaves
open (11 R205; log entry 9). -/
def slotBytes (i : Nat) (t : Option Template) : List Byte :=
  let front := match t with
    | some t => t.image.take 512
    | none => [0xFF#8]
  front ++ (List.range (512 - front.length)).map fun j =>
    Config.storeFill (templateBase + 512 * i + front.length + j)

/-- The keymap area (Table 11-5). -/
def keymapBytes (es : List KeyEntry) : List Byte := es.flatMap fun e => [e.bytes.1, e.bytes.2]

/-- The image formed on the event of the OK (11 R205). -/
def formImage (s : State) : List Byte :=
  imageMark :: flagBytes s.cg.std ++ flagBytes s.cg.cond ++ List.replicate 7 0
    ++ encodeTor s.tor ++ keymapBytes s.kr.keymap
    ++ glyphBytes .std s.cg.std ++ glyphBytes .cond s.cg.cond
    ++ (List.range 8).flatMap fun i => slotBytes i (s.fu.slots.getD i none)

/-! ### Transactions on STCL and STDA (11 R203 to R205) -/

/-- One item of a transaction: a start (also a repeated one), a byte the part sends, a byte the store
sends with the part's acknowledge of it, a stop (11 R204). -/
inductive BusItem where
  | start
  | send (b : Byte)
  | receive (b : Byte) (acknowledged : Bool)
  | stop
  deriving DecidableEq, Repr

/-- The device address with write: seven-bit address 50h, the direction bit behind it (11 R203; log
entry 34). -/
def deviceWrite : Byte := 0xA0#8
/-- The device address with read. -/
def deviceRead : Byte := 0xA1#8

/-- The two address bytes of an offset, most significant first (11 R204). -/
def addressBytes (a : Nat) : List BusItem := [.send (byteOf (a / 256)), .send (byteOf (a % 256))]

/-- Bytes received in order, each acknowledged but the last (11 R204). -/
def receiveAll : List Byte → List BusItem
  | [] => []
  | [b] => [.receive b false]
  | b :: bs => .receive b true :: receiveAll bs

/-- The transaction that reads `n` bytes from an offset on (11 R204). -/
def readTransaction (m : Memory) (a n : Nat) : List BusItem :=
  [.start, .send deviceWrite] ++ addressBytes a ++ [.start, .send deviceRead]
    ++ receiveAll (memReadRange m a n) ++ [.stop]

/-- The transaction that writes bytes from an offset on (11 R205). -/
def writeTransaction (a : Nat) (bs : List Byte) : List BusItem :=
  [.start, .send deviceWrite] ++ addressBytes a ++ bs.map BusItem.send ++ [.stop]

/-- One acknowledge poll: a start and the device address with write (11 R205). -/
def pollItems : List BusItem := [.start, .send deviceWrite]

/-- The areas a load reads, first offset and bytes, the one with the mark first (Table 11-5). -/
def loadAreas (reload : Bool) : List (Nat × Nat) :=
  if reload then [(0, 16), (720, 1664), (2384, 4096)]
  else [(0, 16), (16, 64), (80, 640), (720, 1664), (2384, 4096)]

/-- The transactions of a load whose bytes the store acknowledges: with the mark A6h at byte 0 one for each
area; with another mark the load ends at once, the mark the only byte read (11 R204; log entry 34). -/
def loadTransactions (reload : Bool) (m : Memory) : List (List BusItem) :=
  if memRead m 0 = imageMark then (loadAreas reload).map fun a => readTransaction m a.1 a.2
  else [readTransaction m 0 1]

/-- The items of a read transaction up to its device address or address byte of an index 0 to 3. -/
def sentUpTo (k : Nat) : Nat := if k = 3 then 6 else k + 2

/-- The transactions of a load by its end: where the store leaves a byte unacknowledged, nothing stands
behind that byte (11 R204 (1); log entry 34). -/
def loadDriven (reload : Bool) (missed : Option Nat) (m : Memory) : List (List BusItem) :=
  let ts := loadTransactions reload m
  match missed with
  | none => ts
  | some k => ts.take (k / 4) ++ ((ts.drop (k / 4)).take 1).map (List.take (sentUpTo (k % 4)))

/-- The device addresses and address bytes of a load that reads every area, four in each transaction. -/
def loadAddressBytes (reload : Bool) : Nat := 4 * (loadAreas reload).length

/-! ### Saving (11 R205) -/

/-- First address of body page `p`: the first page begins at byte 1. -/
def pageStart (p : Nat) : Nat := if p = 0 then 1 else 32 * p
/-- The address behind body page `p`: the last page ends at byte 6479. -/
def pageEnd (p : Nat) : Nat := min (32 * p + 32) imageSize
/-- The last body page, bytes 6464 to 6479. -/
def lastPage : Nat := 202

/-- The bytes of body page `p` in an image. -/
def pageBytes (image : List Byte) (p : Nat) : List Byte :=
  (image.drop (pageStart p)).take (pageEnd p - pageStart p)

/-- Where a stage of a save writes, and which bytes: FFh or the mark at byte 0, or a body page
(11 R205). -/
def stageWrite (stage : SaveStage) (page : Nat) (image : List Byte) : Nat × List Byte :=
  match stage with
  | .erase => (0, [0xFF#8])
  | .body => (pageStart page, pageBytes image page)
  | .mark => (0, [imageMark])

/-- What the part drives on STCL and STDA: nothing, both released; the transactions of a load, while its
bytes are acknowledged (`loadDriven` says where a load stops); or the transaction of a save's stage and
the poll that is repeated behind it (11 R203 to R205, R208). -/
inductive StoreLines where
  | released
  | reads (transactions : List (List BusItem))
  | writes (transaction poll : List BusItem)
  deriving DecidableEq, Repr

/-- STCL and STDA in the present store state; RESET releases them (11 R208). -/
def storeLines (s : State) : StoreLines :=
  if s.pins.resetAsserted then .released
  else
    match s.store.state with
    | .idle => .released
    | .loading reload => .reads (loadTransactions reload s.store.mem)
    | .saving stage page image =>
      .writes (writeTransaction (stageWrite stage page image).1 (stageWrite stage page image).2) pollItems

/-- The save ends with the store IDLE; a held option write is handed over (06 R125). -/
def saveEnds (absent : Bool) (s : State) : State :=
  storeHandover (s.onStore fun st => { st with state := .idle, absent := absent })

/-- A write transaction of the save is done: its bytes stand in the store, and the save goes on. -/
def writeDone (stage : SaveStage) (page : Nat) (image : List Byte) (s : State) : State :=
  let w := stageWrite stage page image
  let s1 := s.onStore fun st => { st with mem := memWriteList st.mem w.1 w.2 }
  match stage with
  | .erase => s1.onStore fun st => { st with state := .saving .body 0 image }
  | .body => s1.onStore fun st =>
      { st with
        state := if page < lastPage then .saving .body (page + 1) image else .saving .mark 0 image }
  | .mark => saveEnds false s1

/-- A body page whose write failed or was cut holds free values (log entry 10). -/
def tearPage (page : Nat) (st : StoreUnit) : StoreUnit :=
  { st with
    mem := memWriteList st.mem (pageStart page)
      ((List.range (pageEnd page - pageStart page)).map fun j =>
        Config.tornByte st.tornCount (pageStart page + j))
    tornCount := st.tornCount + 1 }

/-- What an abandoned write leaves in the store: stages (1) and (3) leave byte 0 as it was. -/
def abandonWrite (st : StoreUnit) : StoreUnit :=
  match st.state with
  | .saving .body page _ => tearPage page st
  | _ => st

/-- A write of the save fails (11 R205). -/
def writeFails (stage : SaveStage) (s : State) : State :=
  saveEnds (s.store.absent || stage ≠ .erase) (raise (.storeFault stage) (s.onStore abandonWrite))

/-- An event of a save: nothing unless the store is SAVING; a body page outside the store does not
exist. -/
def saveEvent (f : SaveStage → Nat → List Byte → State → State) (s : State) :
    Host.Outcome State Fault Refusal :=
  match s.store.state with
  | .saving stage page image =>
    if storeSize ≤ pageStart page then .fault (.noSuchStoreAddress (pageStart page))
    else event (f stage page image) s
  | _ => .next s

/-! ### Loading (11 R204) -/

/-- A glyph table read from its flag bytes and its bitmaps (02 R37, 11 R204). -/
def loadedGlyphs (f : Font) (flags bitmaps : List Byte) : List (Option (List Byte)) :=
  (List.range 32).map fun i =>
    if (flags.getD (i / 8) 0).getLsbD (i % 8) then
      some ((bitmaps.drop (f.bitmapBytes * i)).take f.bitmapBytes)
    else none

/-- The keymap read from its area; an entry that LOAD KEYMAP would refuse is NONE with its repeat flag
clear (11 R204). -/
def loadedKeymap (bs : List Byte) : List KeyEntry :=
  (List.range 320).map fun i =>
    (KeyEntry.ofBytes? (bs.getD (2 * i) 0) (bs.getD (2 * i + 1) 0)).getD ⟨.nothing, false⟩

/-- The character generator read from the store. -/
def loadedCharGen (m : Memory) : CharGen where
  std := loadedGlyphs .std (memReadRange m 1 4) (memReadRange m 720 1152)
  cond := loadedGlyphs .cond (memReadRange m 5 4) (memReadRange m 1872 512)

/-- The template slots read from the store; the slot of a form instance that is not CLOSED stays as it
stands (09 R188). -/
def loadedSlots (m : Memory) (fu : FormUnit) : List (Option Template) :=
  (List.range 8).map fun i =>
    if fu.inst.map FormInst.number = some (i + 1) then fu.slots.getD i none
    else decodeSlot (memReadRange m (templateBase + 512 * i) 512)

/-- The areas that a reload reads: glyphs and templates (Table 11-5). -/
def installReload (s : State) : State :=
  { s with cg := loadedCharGen s.store.mem, fu := { s.fu with slots := loadedSlots s.store.mem s.fu } }

/-- Every area, as a reset load reads it (Table 11-5; 10 R197, 08 R163); an open line that holds no
cell takes its width from the loaded field 18 (01 R11). -/
def installAll (s : State) : State :=
  let m := s.store.mem
  clampColumns { installReload s with
    tor := decodeTor (memReadRange m 16 64)
    kr := { s.kr with keymap := loadedKeymap (memReadRange m 80 640) } }

/-- Why a load does not install, none where it does (11 R204). The mark is read first: an address byte
of its transaction left unacknowledged, then a wrong mark, then an address byte of a later transaction
left unacknowledged, each ends the load at once. -/
def loadFailure (reload : Bool) (missed : Option Nat) (m : Memory) : Option AbsentReason :=
  if missed.any (· < 4) then some .noAcknowledge
  else if memRead m 0 ≠ imageMark then some .wrongMark
  else if missed.any (· < loadAddressBytes reload) then some .noAcknowledge
  else none

/-- AWAKE's outcome for a reload (11 R207). -/
def reloadOutcome : Option AbsentReason → AwakeOutcome
  | none => .reloaded
  | some .noAcknowledge => .lostNoAcknowledge
  | some _ => .lostWrongMark

/-- The end of a load: installed or not, the store-absent flag, the report, and a held option write
(11 R203, R204, R207). -/
def loadEnds (reload : Bool) (missed : Option Nat) (s : State) : State :=
  let why := loadFailure reload missed s.store.mem
  let s1 := s.onStore fun st => { st with state := .idle, absent := why.isSome }
  let s2 := if why.isSome then s1 else if reload then installReload s1 else installAll s1
  let s3 :=
    if reload then
      raise (.awake (reloadOutcome why))
        (s2.onPort fun p => { p with contentLost := p.contentLost && why.isSome })
    else
      match why with
      | some r => raise (.storeAbsent r) s2
      | none => raise .storeLoaded s2
  storeHandover s3

/-- The end of a load while the store is LOADING. -/
def loadEvent (missed : Option Nat) (s : State) : State :=
  match s.store.state with
  | .loading reload => loadEnds reload missed s
  | _ => s

end Sys2Proof.Machine
end

