-- ==== Sys2Proof/Machine/Power.lean ====
section
/-! DEFINITION. Power and reset (11 R206 to R208; 03 R67, R68; 07 R147, R149): dormant entry, wake, the end of
WAKING, and the two edges of RESET. -/

namespace Sys2Proof.Machine

/-! ### Dormant entry (11 R206) -/

/-- An open line is empty and holds no waiting entries. -/
def OpenLine.idle (l : OpenLine) : Bool := l.cells.isEmpty && l.waiting.isEmpty

/-- The conditions of DORMANT (11 R206). -/
def dormantAllowed (s : State) : Bool :=
  s.link.state = .down && s.pq.entries.isEmpty && s.framer.rxf.isEmpty
    && s.framer.flow.isEmpty && s.framer.data.isEmpty
    && s.la.far.idle && s.la.ctl.idle && s.la.key.idle
    && s.fu.inst.isNone && s.pe.engine = .idle && s.store.state = .idle
    && s.port.commandCount = 0

/-- The print engine at dormant entry (03 R61, R67). A key row scan that is granted and in progress is
dropped with its readings not taken (DESIGN CHOICE, log entry 40). -/
def peDormant (pe : PrintEngine) : PrintEngine :=
  { pe with
    engine := .dormant, history := 0, lastV := none, lastT := none
    cadM := 16, cadS := 0, feedRun := 0, forced := true
    paperCount := .stopped, leverCount := .stopped
    bus := .free, loadWait := false, scanWait := none, motorOn := false }

/-- The keyboard scanner at dormant entry; the release-required flags and the row pointer keep their
values (07 R147). -/
def ksDormant (ks : KeyScanner) : KeyScanner :=
  { ks with
    keys := ks.keys.map fun k => { k with deb := .up, modKind := none }
    downList := [], typematic := none, due := false, kq := [], kqOverrun := false
    echoBegun := false, keyLatch := 0xFF#8 }

/-- Every effect of dormant entry (11 R206; 01 R22, 02 R37, 05 R103, R115, 06 R132, 09 R188); how the
sense lines then read with all rows driven is told by the first event on them (07 R147 (5), R148; log
entry 33). -/
def enterDormant (s : State) : State :=
  { s with
    pins := { s.pins with sense := none }
    port := { s.port with power := .dormant, contentLost := true }
    pe := peDormant s.pe
    ks := ksDormant s.ks
    cg := cgReset
    fu := { s.fu with slots := List.replicate 8 none, loadBuf := none }
    dp := .text
    framer := { s.framer with overrun := false, paused := false, farPaused := false, rx := .suspended }
    la := laReset }

/-! ### Wake and the end of WAKING (11 R207) -/

/-- The keyboard scanner at wake (07 R149). -/
def ksWake (ks : KeyScanner) : KeyScanner :=
  { ks with
    keys := ks.keys.map fun _ => ⟨.up, true, none⟩
    downList := [], rowPtr := 0, typematic := none, due := false, kq := [], kqOverrun := false
    echoBegun := false }

/-- The print engine at wake: WAKING, bus free, history white, a measurement forced (03 R57, R59, R61,
R67). -/
def peWake (pe : PrintEngine) : PrintEngine :=
  { pe with
    engine := .waking, history := 0, forced := true
    bus := .free, loadWait := false, scanWait := none }

/-- The first wake event (11 R207). -/
def wake (s : State) : State :=
  { s with
    port := { s.port with power := .waking }
    pe := peWake s.pe
    ks := ksWake s.ks }

/-- The sense lines before an event on them while the part is dormant: as they last read, or as they
read at dormant entry where no event has come since (07 R148; log entry 33). -/
def senseBefore (atEntry : BitVec 80) (p : Pins) : BitVec 10 := p.sense.getD (columnsClosed atEntry)

/-- The keys `closed` are closed while the part is dormant: a sense line that was open and reads closed
is a wake event; a line that stays closed, or opens, is none (07 R148). -/
def wakeByKey (closed atEntry : BitVec 80) (s : State) : State :=
  if s.port.power = .dormant then
    let lines := columnsClosed closed
    let s1 := s.onPins fun p => { p with sense := some lines }
    if lines &&& ~~~senseBefore atEntry s.pins = 0 then s1 else wake s1
  else s

/-- PAPER and LEVER as read when WAKING ends or RESET is released (03 R67, R68). Where both add a cause,
PAPER OUT is added first (DESIGN CHOICE, log entry 36). -/
def readSensors (s : State) : State :=
  let s1 := if s.pins.paperAbsent then setCause .paperOut s else s
  if s1.pins.leverOpen then setCause .leverUp s1 else s1

/-- The reload begins, or AWAKE tells that none is made; a waiting scan request is withdrawn while the
store is LOADING (11 R207; 07 R134). A scan that is granted and in progress ends as any transfer, and
its readings are taken in LOADING (DESIGN CHOICE, log entry 41). -/
def startReload (s : State) : State :=
  if s.store.fitted && !s.store.absent then
    (s.onStore fun st => { st with state := .loading true }).onPe fun pe => { pe with scanWait := none }
  else raise (.awake .lostNoReload) s

/-- WAKING ends (03 R67, 11 R207). -/
def endWaking (s : State) : State :=
  if s.port.power = .waking then
    startReload (engineDecide (readSensors (s.onPort fun p => { p with power := .run })))
  else s

/-! ### RESET (11 R208) -/

/-- The print engine when RESET is asserted: row, load, strobe and step are abandoned, STB is released
and the motor outputs are off (03 R68). -/
def peAbandon (pe : PrintEngine) : PrintEngine :=
  { pe with row := .idle, bus := .free, loadWait := false, scanWait := none, motorOn := false }

/-- RESET is asserted: every transfer in progress is abandoned (11 R208). -/
def assertReset (s : State) : State :=
  if s.pins.resetAsserted then s
  else
    { s with
      pins := { s.pins with resetAsserted := true }
      pe := peAbandon s.pe
      store := { abandonWrite s.store with state := .idle }
      link := { s.link with breakSend := .none }
      framer := { s.framer with inFlight := none } }

/-- Every block at its reset value; the queue, the sensor pins and the store's bytes stay. -/
def resetBlocks (storesel : Bool) (s : State) : State where
  pending := s.pending
  raised := []
  pins := { s.pins with resetAsserted := false }
  port := portReset
  store := storeReset storesel s.store.mem s.store.tornCount
  tor := torReset
  link := linkReset
  framer := framerReset
  dp := .text
  la := laReset
  pq := pqReset
  cg := cgReset
  pe := peReset
  ks := ksReset
  kr := krReset
  fu := fuReset

/-- RESET is released: reset values, the sensor readings, and STORE ABSENT where no store is fitted
(03 R68, 11 R208). -/
def releaseReset (storesel : Bool) (s : State) : State :=
  if s.pins.resetAsserted then
    let s1 := readSensors (resetBlocks storesel s)
    let s2 := if s1.pe.hold.isEmpty then s1 else engineDecide s1
    placeNotices (if storesel then s2 else raise (.storeAbsent .notFitted) s2)
  else s

/-! ### Sensors (03 R43, R44) -/

/-- PAPER and LEVER are watched: from the release of RESET and from the end of WAKING until dormant
entry. -/
def sensorsWatched (s : State) : Bool := !s.pins.resetAsserted && s.port.power = .run

/-- A report of paper absent that is watched (03 R43). -/
def paperGone (s : State) : State :=
  let s1 := s.onPe fun pe => { pe with paperCount := .stopped }
  if s1.pe.hold.paperOut then s1
  else if s1.pq.inPrint then s1.onPe fun pe => { pe with paperPending := true }
  else addCause .paperOut s1

/-- A report of paper present that is watched: the count starts. -/
def paperBack (s : State) : State :=
  s.onPe fun pe => { pe with paperCount := if pe.paperCount = .stopped then .running else pe.paperCount }

/-- Paper has been present for 500 ms (03 R43). -/
def paperCounted (s : State) : State :=
  if s.pe.paperCount = .running then
    removeCause .paperOut (s.onPe fun pe => { pe with paperCount := .reached, paperPending := false })
  else s

/-- A report of the lever open that is watched (03 R44). -/
def leverUpReport (s : State) : State :=
  let s1 := s.onPe fun pe => { pe with leverCount := .stopped }
  if s1.pe.hold.leverUp then s1
  else if s1.pe.row ≠ .idle then s1.onPe fun pe => { pe with leverPending := true }
  else addCause .leverUp s1

/-- A report of the lever closed that is watched: the count starts. -/
def leverDownReport (s : State) : State :=
  s.onPe fun pe => { pe with leverCount := if pe.leverCount = .stopped then .running else pe.leverCount }

/-- The lever has been closed for 500 ms (03 R44). -/
def leverCounted (s : State) : State :=
  if s.pe.leverCount = .running then
    removeCause .leverUp (s.onPe fun pe => { pe with leverCount := .reached })
  else s

/-- A sensor report: its pin's level follows always, its rule acts while the sensor is watched. -/
def sensorReport (pin : Pins → Pins) (f : State → State) (s : State) : State :=
  let s1 := s.onPins pin
  if sensorsWatched s1 then placeNotices (f s1) else s1

/-- A temperature measurement during HOT (03 R41). -/
def hotMeasured (t : Int) (s : State) : State :=
  if s.pe.hold.hot then
    let s1 := s.onPe fun pe => { pe with lastT := some t }
    if t ≤ 60 then removeCause .hot s1 else s1
  else s

/-- A supply measurement during LOW SUPPLY (03 R42; log entries 7 and 18). -/
def supplyMeasured (v : Nat) (s : State) : State :=
  if s.pe.hold.lowSupply then
    let s1 := s.onPins fun p => { p with vsense := v }
    if 52 ≤ v then removeCause .lowSupply s1 else s1
  else s

/-- The paper steps and the row ends; `v` is the supply at the next row's opening (03 R62; log
entry 7). -/
def motorSteps (v : Nat) (s : State) : State :=
  if s.pe.row.atStep then rowEnd ((s.onPins fun p => { p with vsense := v }).onPe doStep) else s

end Sys2Proof.Machine
end

