-- ==== Sys2Proof/WellFormed.lean ====
section
/-! DEFINITION. Which commands are well formed: operands within what the row can carry. -/

namespace Sys2Proof

/-- The payload of a command frame holds 0 to 63 bytes (11 R200). -/
def payloadFits (p : List Byte) : Bool := p.length ≤ 63

/-- The command codes of Table 11-2. -/
def commandCodes : List Nat :=
  [0x01, 0x02, 0x03, 0x08, 0x09, 0x10, 0x11, 0x12, 0x13, 0x14, 0x15, 0x16, 0x20, 0x21, 0x22, 0x23,
   0x24, 0x28, 0x30, 0x31, 0x32, 0x33, 0x34, 0x35, 0x36]

/-- Table 11-2 lists the code (11 R201, test (1)). -/
def listedCode (c : Byte) : Bool := commandCodes.contains c.toNat

/-- The raw level L lies within -600 to 0 (04 R73). -/
def levelFits (l : Int) : Bool := -600 ≤ l && l ≤ 0

/-- A command is well formed. -/
def Instr.wellFormed : Instr → Bool
  | .status p => payloadFits p
  | .saveStore p => payloadFits p
  | .dormant p => payloadFits p
  | .setOption p => payloadFits p
  | .getOption p => payloadFits p
  | .printText p => payloadFits p
  | .endLine p => payloadFits p
  | .feed p => payloadFits p
  | .purge p => payloadFits p
  | .printStop p => payloadFits p
  | .printGo p => payloadFits p
  | .loadCharacter p => payloadFits p
  | .linkOriginate p => payloadFits p
  | .linkAnswer p => payloadFits p
  | .linkDrop p => payloadFits p
  | .send p => payloadFits p
  | .sendBreak p => payloadFits p
  | .loadKeymap p => payloadFits p
  | .loadForm p => payloadFits p
  | .deleteForm p => payloadFits p
  | .openForm p => payloadFits p
  | .setField p => payloadFits p
  | .getField p => payloadFits p
  | .commitForm p => payloadFits p
  | .cancelForm p => payloadFits p
  | .unknownCommand c p => payloadFits p && !listedCode c
  | .commandByteWrite _ => true
  | .portClear => true
  | .outputFifoRead => true
  | .statusByteRead => true
  | .resetAssert => true
  | .resetRelease _ => true
  | .storeLoadEnd missed => missed.all (· < 20)
  | .saveWriteDone => true
  | .savePollTimeout => true
  | .saveWriteNoAcknowledge => true
  | .keyWakeClosure _ _ => true
  | .wakingEnd => true
  | .paperAbsent => true
  | .paperPresent => true
  | .paperCountExpiry => true
  | .leverOpen => true
  | .leverClosed => true
  | .leverCountExpiry => true
  | .hotMeasurement _ => true
  | .lowSupplyMeasurement _ => true
  | .temperatureMeasurement _ => true
  | .headLoad => true
  | .strobeEnd => true
  | .motorStep _ => true
  | .waitListService => true
  | .pendingBlockAppend => true
  | .farHoldTimeout => true
  | .scanRequest => true
  | .keyRowScan _ => true
  | .typematicTimer => true
  | .keyEventExamine => true
  | .carrierPresent l => levelFits l
  | .carrierAbsent l => levelFits l
  | .connectWaitExpiry => true
  | .qualifyExpiry => true
  | .holdoverExpiry => true
  | .characterReceived _ _ _ l => levelFits l
  | .startBit _ => true
  | .markDecision => true
  | .breakPending => true
  | .receivedBreak => true
  | .disconnectSpace => true
  | .breakSendEnd => true
  | .transmitCharacterEnd => true
  | .directiveByteTake => true
  | .directiveTimeout => true
  | .replyAdd => true
  | .reportByteAdd => true

end Sys2Proof
end

