-- ==== Sys2Proof/Machine/Port.lean ====
section
/-! DEFINITION. The controller port (11): the frame parser, the run of command frames, and the commands of
Table 11-2 but SET OPTION and GET OPTION (OptionWrite.lean). -/

namespace Sys2Proof.Machine

/-! ### Commands of the print path -/

/-- STATUS (11 R201). -/
def cmdStatus (p : List Byte) (s : State) : State × Resp :=
  if !p.isEmpty then (s, .bare .range)
  else (s, ⟨.ok,
    [s.link.state.byte, s.pe.engine.byte, s.pe.hold.byte, byteOf s.pq.entries.length,
     byteOf s.framer.rxf.length, byteOf (s.framer.flow.length + s.framer.data.length),
     byteOf s.ks.kq.length, (formState s).byte, byteOf (formNumber s), s.store.state.byte]⟩)

/-- Payload bytes offered to the CTL line until one is refused; the bytes taken are counted, and
`true` says that all were (01 R18). -/
def printBytes : List Byte → Nat → State → State × Nat × Bool
  | [], n, s => (s, n, true)
  | b :: bs, n, s =>
    match offerCode .ctl b .none s with
    | .taken s1 => printBytes bs (n + 1) s1
    | .refused _ => (s, n, false)

/-- PRINT TEXT (01 R18). -/
def cmdPrintText (p : List Byte) (s : State) : State × Resp :=
  match printBytes p 0 s with
  | (s1, n, all) => (s1, ⟨if all then .ok else .full, [byteOf n]⟩)

/-- END LINE (01 R19). -/
def cmdEndLine (p : List Byte) (s : State) : State × Resp :=
  if !p.isEmpty then (s, .bare .range)
  else
    match closeLine .ctl [commitEntry s .ctl] s with
    | some s1 => (s1, .bare .ok)
    | none => (s, .bare .full)

/-- FEED (03 R64). -/
def cmdFeed (p : List Byte) (s : State) : State × Resp :=
  match p with
  | [n] =>
    if n = 0 then (s, .bare .range)
    else if canAppend 1 s.pq then (appendEntries [feedEntry .ctl n.toNat] s, .bare .ok)
    else (s, .bare .full)
  | _ => (s, .bare .range)

/-- The sources that a PURGE set names (Table 11-2). -/
def purgeSources (b : Byte) : List Source :=
  (if b.getLsbD 0 then [.far] else []) ++ (if b.getLsbD 1 then [.ctl] else [])
    ++ (if b.getLsbD 2 then [.key] else []) ++ (if b.getLsbD 3 then [.form] else [])

/-- PURGE (01 R8). -/
def cmdPurge (p : List Byte) (s : State) : State × Resp :=
  match p with
  | [b] =>
    if 0x0F < b.toNat then (s, .bare .range)
    else
      match purgeEntries (purgeSources b) s with
      | (s1, n) => (serveWaitList s1, ⟨.ok, [byteOf n]⟩)
  | _ => (s, .bare .range)

/-- PRINT STOP (03 R46). -/
def cmdPrintStop (p : List Byte) (s : State) : State × Resp :=
  if !p.isEmpty then (s, .bare .range) else (addCause .stopped s, .bare .ok)

/-- PRINT GO (03 R46). -/
def cmdPrintGo (p : List Byte) (s : State) : State × Resp :=
  if !p.isEmpty then (s, .bare .range) else (removeCause .stopped s, .bare .ok)

/-- LOAD CHARACTER (02 R36). -/
def cmdLoadCharacter (p : List Byte) (s : State) : State × Resp :=
  if storeBusy s then (s, .bare .busy)
  else
    match p with
    | code :: font :: bm =>
      let f := if font = 0 then Font.std else Font.cond
      if 0x80 ≤ code.toNat ∧ code.toNat ≤ 0x9F ∧ font.toNat ≤ 1 ∧ bm.length = f.bitmapBytes then
        ({ s with cg := s.cg.load f code bm }, .bare .ok)
      else (s, .bare .range)
    | _ => (s, .bare .range)

/-! ### Commands of the link -/

/-- LINK ORIGINATE and LINK ANSWER (04 R74; 11 R207; log entry 19). -/
def cmdLinkStart (role : Role) (p : List Byte) (s : State) : State × Resp :=
  if linkStartBlocked s then (s, .bare .busy)
  else if !p.isEmpty then (s, .bare .range)
  else if s.link.state ≠ .down then (s, .bare .state)
  else (startConnection role .command s, .bare .ok)

/-- LINK DROP (04 R93). -/
def cmdLinkDrop (p : List Byte) (s : State) : State × Resp :=
  if !p.isEmpty then (s, .bare .range)
  else if s.link.state = .down then (s, .bare .ok)
  else (enterDown .command false s, .bare .ok)

/-- SEND (05 R112). -/
def cmdSend (p : List Byte) (s : State) : State × Resp :=
  if s.link.state ≠ .online then (s, .bare .state)
  else if replyWaits s || !dataFits p.length s.framer then (s, .bare .full)
  else (addData p s, .bare .ok)

/-- SEND BREAK (04 R92). -/
def cmdSendBreak (p : List Byte) (s : State) : State × Resp :=
  if !p.isEmpty then (s, .bare .range)
  else if breakAccepted s then (startBreakSend s, .bare .ok)
  else (s, .bare .state)

/-! ### Commands of the keymap and the forms -/

/-- LOAD KEYMAP (08 R162). -/
def cmdLoadKeymap (p : List Byte) (s : State) : State × Resp :=
  if storeBusy s then (s, .bare .busy)
  else
    match p with
    | [k, l, kind, value] =>
      if 79 < k.toNat ∨ 3 < l.toNat then (s, .bare .range)
      else
        match KeyEntry.ofBytes? kind value with
        | some e => ({ s with kr := s.kr.putEntry l.toNat k.toNat e }, .bare .ok)
        | none => (s, .bare .range)
    | _ => (s, .bare .range)

/-- A template number of a command, 1 to 8. -/
def templateNumber (n : Byte) : Bool := 1 ≤ n.toNat && n.toNat ≤ 8

/-- A template number that a form instance uses (09 R167 (1), R168 (3)). -/
def templateInUse (n : Nat) (s : State) : Bool := s.fu.inst.map FormInst.number = some n

/-- The last segment: the load ends, and the image is tested and installed (09 R167). -/
def installImage (n : Nat) (img : List Byte) (s : State) : State × Resp :=
  let s1 := s.onFu fun fu => { fu with loadBuf := none }
  if templateInUse n s1 then (s1, .bare .state)
  else
    match decodeImage img with
    | some t => (s1.onFu fun fu => { fu with slots := fu.slots.set (n - 1) (some t) }, .bare .ok)
    | none => (s1, .bare .range)

/-- A segment taken behind the bytes already held (09 R166 (5) to (7)). -/
def takeSegment (n : Nat) (held new : List Byte) (last : Bool) (s : State) : State × Resp :=
  let img := held ++ new
  if 512 < img.length then (s.onFu fun fu => { fu with loadBuf := none }, .bare .range)
  else if last then installImage n img s
  else (s.onFu fun fu => { fu with loadBuf := some ⟨n, img⟩ }, ⟨.ok, bytes16 img.length⟩)

/-- The bytes of the load in progress for a template number, none where there is no such load. -/
def heldSegments (n : Nat) (fu : FormUnit) : Option (List Byte) :=
  match fu.loadBuf with
  | some b => if b.number = n then some b.bytes else none
  | none => none

/-- LOAD FORM (09 R166). -/
def cmdLoadForm (p : List Byte) (s : State) : State × Resp :=
  if storeBusy s then (s, .bare .busy)
  else
    match p with
    | n :: c :: bs =>
      if !templateNumber n then (s, .bare .range)
      else
        match c.toNat with
        | 0x00 => takeSegment n.toNat [] bs false s
        | 0x80 => takeSegment n.toNat [] bs true s
        | 0x01 =>
          match heldSegments n.toNat s.fu with
          | some held => takeSegment n.toNat held bs false s
          | none => (s, .bare .state)
        | 0x81 =>
          match heldSegments n.toNat s.fu with
          | some held => takeSegment n.toNat held bs true s
          | none => (s, .bare .state)
        | _ => (s, .bare .range)
    | _ => (s, .bare .range)

/-- DELETE FORM (09 R168). -/
def cmdDeleteForm (p : List Byte) (s : State) : State × Resp :=
  if storeBusy s then (s, .bare .busy)
  else
    match p with
    | [n] =>
      if !templateNumber n then (s, .bare .range)
      else if templateInUse n.toNat s then (s, .bare .state)
      else if (s.fu.slots.getD (n.toNat - 1) none).isNone then (s, .bare .absent)
      else (s.onFu fun fu => { fu with slots := fu.slots.set (n.toNat - 1) none }, .bare .ok)
    | _ => (s, .bare .range)

/-- OPEN FORM (09 R171). -/
def cmdOpenForm (p : List Byte) (s : State) : State × Resp :=
  match p with
  | [n] => if templateNumber n then openForm .ctl n.toNat s else (s, .bare .range)
  | _ => (s, .bare .range)

/-- SET FIELD (09 R177). -/
def cmdSetField (p : List Byte) (s : State) : State × Resp :=
  match p with
  | id :: v =>
    match writeField .ctl id.toNat v s with
    | (s1, r) => (s1, .bare r)
  | [] => (s, .bare .range)

/-- The last writer of a field id among field values. -/
def writerOf (vals : List FieldVal) (id : Nat) : Origin :=
  match vals.find? (fun v => v.id == id) with
  | some v => v.writer
  | none => .nobody

/-- The last writer that GET FIELD reads: none for a computed field (09 R178). -/
def fieldWriter (f : Field) (vals : List FieldVal) : Origin :=
  if f.kind.entered then writerOf vals f.id else .nobody

/-- GET FIELD (09 R178). -/
def cmdGetField (p : List Byte) (s : State) : State × Resp :=
  match p with
  | [id] =>
    match s.fu.inst with
    | none => (s, .bare .state)
    | some i =>
      match s.formTemplate.field? id.toNat with
      | none => (s, .bare .absent)
      | some f =>
        let v := valueOf i.vals f.id
        (s, ⟨.ok, [id, f.kind.byte, v.statusByte, (fieldWriter f i.vals).byte] ++ valueText f.kind v⟩)
  | _ => (s, .bare .range)

/-- COMMIT FORM (09 R181). -/
def cmdCommitForm (p : List Byte) (s : State) : State × Resp :=
  if !p.isEmpty then (s, .bare .range) else commitForm .ctl s

/-- CANCEL FORM (09 R187). -/
def cmdCancelForm (p : List Byte) (s : State) : State × Resp :=
  if !p.isEmpty then (s, .bare .range) else cancelForm .ctl s

/-! ### Commands of the store and of power -/

/-- SAVE STORE (11 R205, R207; log entry 19). -/
def cmdSaveStore (p : List Byte) (s : State) : State × Resp :=
  if linkStartBlocked s then (s, .bare .busy)
  else if !p.isEmpty then (s, .bare .range)
  else if s.store.state.isSaving || !s.store.fitted then (s, .bare .state)
  else (s.onStore fun st => { st with state := .saving .erase 0 (formImage s) }, .bare .ok)

/-- DORMANT (11 R206); the frames behind it have left the FIFO only by running. -/
def cmdDormant (p : List Byte) (s : State) : State × Resp :=
  if !p.isEmpty then (s, .bare .range)
  else if dormantAllowed s then (enterDormant s, .bare .ok)
  else (s, .bare .state)

/-! ### The run of frames (11 R201) -/

/-- A command taken by its own rule (Table 11-2). -/
def runListed (f : CmdFrame) (s : State) : State × Resp :=
  match f.code.toNat with
  | 0x01 => cmdStatus f.payload s
  | 0x02 => cmdSaveStore f.payload s
  | 0x03 => cmdDormant f.payload s
  | 0x08 => cmdSetOption f.payload s
  | 0x09 => cmdGetOption f.payload s
  | 0x10 => cmdPrintText f.payload s
  | 0x11 => cmdEndLine f.payload s
  | 0x12 => cmdFeed f.payload s
  | 0x13 => cmdPurge f.payload s
  | 0x14 => cmdPrintStop f.payload s
  | 0x15 => cmdPrintGo f.payload s
  | 0x16 => cmdLoadCharacter f.payload s
  | 0x20 => cmdLinkStart .originate f.payload s
  | 0x21 => cmdLinkStart .answer f.payload s
  | 0x22 => cmdLinkDrop f.payload s
  | 0x23 => cmdSend f.payload s
  | 0x24 => cmdSendBreak f.payload s
  | 0x28 => cmdLoadKeymap f.payload s
  | 0x30 => cmdLoadForm f.payload s
  | 0x31 => cmdDeleteForm f.payload s
  | 0x32 => cmdOpenForm f.payload s
  | 0x33 => cmdSetField f.payload s
  | 0x34 => cmdGetField f.payload s
  | 0x35 => cmdCommitForm f.payload s
  | 0x36 => cmdCancelForm f.payload s
  | _ => (s, .bare .unknown)

/-- A command tested by the port, then taken (11 R201). -/
def runCommand (f : CmdFrame) (s : State) : State × Resp :=
  if !listedCode f.code then (s, .bare .unknown)
  else if s.store.state.isLoading && f.code ≠ 0x01#8 then (s, .bare .busy)
  else runListed f s

/-- The output FIFO has room for a response (11 R201). -/
def responseFits (p : Port) : Bool := p.out.length + Config.responseRoom ≤ Config.outputCapacity

/-- The response stands in the output FIFO, and behind it the notices of the event (11 R202). -/
def respond (o : State × Resp) : State :=
  placeNotices (o.1.onPort fun p => { p with out := p.out ++ o.2.bytes })

/-- Complete frames run in order while there is room; `fuel` bounds their number. -/
def runFrames : (fuel : Nat) → State → State
  | 0, s => s
  | fuel + 1, s =>
    match s.port.frames with
    | [] => s
    | f :: rest =>
      if responseFits s.port then
        runFrames fuel (respond (runCommand f (s.onPort fun p => { p with frames := rest })))
      else s

/-- The frames that can run do. -/
def runWaiting (s : State) : State := runFrames s.port.frames.length s

/-! ### Strobes (11 R198 to R200) -/

/-- A byte behind a complete frame's other bytes: the frame joins the FIFO, or grows. -/
def payloadByte (code : Byte) (got : List Byte) (due : Nat) (b : Byte) (p : Port) : Port :=
  if due ≤ 1 then { p with frames := p.frames ++ [⟨code, got ++ [b]⟩], parser := .code }
  else { p with parser := .payload code (got ++ [b]) (due - 1) }

/-- A length byte (11 R200 (3), (4)). -/
def lengthByte (code b : Byte) (p : Port) : Port :=
  if 63 < b.toNat then { p with cmdLost := true, parser := .lost }
  else if b = 0 then { p with frames := p.frames ++ [⟨code, []⟩], parser := .code }
  else { p with parser := .payload code [] b.toNat }

/-- A byte written at A0 = 0 through the frame parser (11 R200). -/
def parseByte (b : Byte) (p : Port) : Port :=
  match p.parser with
  | .lost => p
  | ps =>
    if Config.commandCapacity ≤ p.commandCount then { p with cmdLost := true, parser := .lost }
    else
      match ps with
      | .code => { p with parser := .length b }
      | .length c => lengthByte c b p
      | .payload c got due => payloadByte c got due b p
      | .lost => p

/-- A write at A0 = 0: a wake event while dormant, else a byte of the frame parser (11 R198, R200). -/
def writeByte (b : Byte) (s : State) : State :=
  if s.port.power = .dormant then wake s else runWaiting (s.onPort (parseByte b))

/-- A write at A0 = 1: a wake event while dormant, else a port clear (11 R198, R200). -/
def clearPort (s : State) : State :=
  if s.port.power = .dormant then wake s
  else s.onPort fun p => { p with frames := [], parser := .code, cmdLost := false }

/-- A read at A0 = 0 (11 R198): the oldest byte is driven and removed, and frames that have waited for
room may run. -/
def readOutput (s : State) : State :=
  runWaiting ((s.onPins fun q => { q with readData := s.port.out.headD 0 }).onPort
    fun p => { p with out := p.out.tail })

/-- A read at A0 = 1 (11 R199). -/
def readStatus (s : State) : State :=
  (s.onPins fun q => { q with readData := statusByte s }).onPort fun p => { p with noticeLost := false }

/-- The bytes of a command frame (11 R200). -/
def frameBytes (code : Byte) (payload : List Byte) : List Byte :=
  code :: byteOf payload.length :: payload

/-- A command frame's bytes are written to the port, one after another (log entry 1); while RESET is
asserted they are not taken (log entry 13). -/
def writeFrame (code : Byte) (payload : List Byte) (s : State) : State :=
  (frameBytes code payload).foldl (fun s b => writeByte b s) s

/-- A command frame row. -/
def deliverFrame (code : Byte) (payload : List Byte) (s : State) : Host.Outcome State Fault Refusal :=
  if 255 < payload.length then .refused (.payloadNotWritable payload.length)
  else event (writeFrame code payload) s

end Sys2Proof.Machine
end

