-- ==== Sys2Proof/Machine/ExecCommands.lean ====
section
/-! DEFINITION. Meanings of the controller command frames (Table 11-2): the frame's bytes are written to the
port, and the port runs the frame when it is complete and there is room for its response (11 R200,
R201; log entry 1). -/

namespace Sys2Proof.Machine

/-- STATUS (11 R201): command code 01h. -/
def execStatus (payload : List Byte) (s : State) : Host.Outcome State Fault Refusal :=
  deliverFrame 0x01#8 payload s

/-- SAVE_STORE (11 R205): command code 02h. -/
def execSaveStore (payload : List Byte) (s : State) : Host.Outcome State Fault Refusal :=
  deliverFrame 0x02#8 payload s

/-- DORMANT (11 R206): command code 03h. -/
def execDormant (payload : List Byte) (s : State) : Host.Outcome State Fault Refusal :=
  deliverFrame 0x03#8 payload s

/-- SET_OPTION (10 R191): command code 08h. -/
def execSetOption (payload : List Byte) (s : State) : Host.Outcome State Fault Refusal :=
  deliverFrame 0x08#8 payload s

/-- GET_OPTION (10 R192): command code 09h. -/
def execGetOption (payload : List Byte) (s : State) : Host.Outcome State Fault Refusal :=
  deliverFrame 0x09#8 payload s

/-- PRINT_TEXT (01 R18): command code 10h. -/
def execPrintText (payload : List Byte) (s : State) : Host.Outcome State Fault Refusal :=
  deliverFrame 0x10#8 payload s

/-- END_LINE (01 R19): command code 11h. -/
def execEndLine (payload : List Byte) (s : State) : Host.Outcome State Fault Refusal :=
  deliverFrame 0x11#8 payload s

/-- FEED (03 R64): command code 12h. -/
def execFeed (payload : List Byte) (s : State) : Host.Outcome State Fault Refusal :=
  deliverFrame 0x12#8 payload s

/-- PURGE (01 R8): command code 13h. -/
def execPurge (payload : List Byte) (s : State) : Host.Outcome State Fault Refusal :=
  deliverFrame 0x13#8 payload s

/-- PRINT_STOP (03 R46): command code 14h. -/
def execPrintStop (payload : List Byte) (s : State) : Host.Outcome State Fault Refusal :=
  deliverFrame 0x14#8 payload s

/-- PRINT_GO (03 R46): command code 15h. -/
def execPrintGo (payload : List Byte) (s : State) : Host.Outcome State Fault Refusal :=
  deliverFrame 0x15#8 payload s

/-- LOAD_CHARACTER (02 R36): command code 16h. -/
def execLoadCharacter (payload : List Byte) (s : State) : Host.Outcome State Fault Refusal :=
  deliverFrame 0x16#8 payload s

/-- LINK_ORIGINATE (04 R74): command code 20h. -/
def execLinkOriginate (payload : List Byte) (s : State) : Host.Outcome State Fault Refusal :=
  deliverFrame 0x20#8 payload s

/-- LINK_ANSWER (04 R74): command code 21h. -/
def execLinkAnswer (payload : List Byte) (s : State) : Host.Outcome State Fault Refusal :=
  deliverFrame 0x21#8 payload s

/-- LINK_DROP (04 R93): command code 22h. -/
def execLinkDrop (payload : List Byte) (s : State) : Host.Outcome State Fault Refusal :=
  deliverFrame 0x22#8 payload s

/-- SEND (05 R112): command code 23h. -/
def execSend (payload : List Byte) (s : State) : Host.Outcome State Fault Refusal :=
  deliverFrame 0x23#8 payload s

/-- SEND_BREAK (04 R92): command code 24h. -/
def execSendBreak (payload : List Byte) (s : State) : Host.Outcome State Fault Refusal :=
  deliverFrame 0x24#8 payload s

/-- LOAD_KEYMAP (08 R162): command code 28h. -/
def execLoadKeymap (payload : List Byte) (s : State) : Host.Outcome State Fault Refusal :=
  deliverFrame 0x28#8 payload s

/-- LOAD_FORM (09 R166): command code 30h. -/
def execLoadForm (payload : List Byte) (s : State) : Host.Outcome State Fault Refusal :=
  deliverFrame 0x30#8 payload s

/-- DELETE_FORM (09 R168): command code 31h. -/
def execDeleteForm (payload : List Byte) (s : State) : Host.Outcome State Fault Refusal :=
  deliverFrame 0x31#8 payload s

/-- OPEN_FORM (09 R171): command code 32h. -/
def execOpenForm (payload : List Byte) (s : State) : Host.Outcome State Fault Refusal :=
  deliverFrame 0x32#8 payload s

/-- SET_FIELD (09 R177): command code 33h. -/
def execSetField (payload : List Byte) (s : State) : Host.Outcome State Fault Refusal :=
  deliverFrame 0x33#8 payload s

/-- GET_FIELD (09 R178): command code 34h. -/
def execGetField (payload : List Byte) (s : State) : Host.Outcome State Fault Refusal :=
  deliverFrame 0x34#8 payload s

/-- COMMIT_FORM (09 R181): command code 35h. -/
def execCommitForm (payload : List Byte) (s : State) : Host.Outcome State Fault Refusal :=
  deliverFrame 0x35#8 payload s

/-- CANCEL_FORM (09 R187): command code 36h. -/
def execCancelForm (payload : List Byte) (s : State) : Host.Outcome State Fault Refusal :=
  deliverFrame 0x36#8 payload s

/-- UNKNOWN_COMMAND (11 R201): a frame of a code that Table 11-2 does not list. -/
def execUnknownCommand (code : Byte) (payload : List Byte) (s : State) : Host.Outcome State Fault Refusal :=
  deliverFrame code payload s

end Sys2Proof.Machine
end

