-- ==== Sys2Proof/Machine/ExecEngine.lean ====
section
/-! DEFINITION. Meanings of the sensor and print engine events (03) and of the print queue events (01). -/

namespace Sys2Proof.Machine

/-- PAPER_ABSENT (03 R43). -/
def execPaperAbsent (s : State) : Host.Outcome State Fault Refusal :=
  .next (sensorReport (fun p => { p with paperAbsent := true }) paperGone s)

/-- PAPER_PRESENT (03 R43). -/
def execPaperPresent (s : State) : Host.Outcome State Fault Refusal :=
  .next (sensorReport (fun p => { p with paperAbsent := false }) paperBack s)

/-- PAPER_COUNT_EXPIRY (03 R43). -/
def execPaperCountExpiry (s : State) : Host.Outcome State Fault Refusal := event paperCounted s

/-- LEVER_OPEN (03 R44). -/
def execLeverOpen (s : State) : Host.Outcome State Fault Refusal :=
  .next (sensorReport (fun p => { p with leverOpen := true }) leverUpReport s)

/-- LEVER_CLOSED (03 R44). -/
def execLeverClosed (s : State) : Host.Outcome State Fault Refusal :=
  .next (sensorReport (fun p => { p with leverOpen := false }) leverDownReport s)

/-- LEVER_COUNT_EXPIRY (03 R44). -/
def execLeverCountExpiry (s : State) : Host.Outcome State Fault Refusal := event leverCounted s

/-- HOT_MEASUREMENT (03 R41). -/
def execHotMeasurement (t : Int) (s : State) : Host.Outcome State Fault Refusal :=
  event (hotMeasured t) s

/-- LOW_SUPPLY_MEASUREMENT (03 R42). -/
def execLowSupplyMeasurement (v : Nat) (s : State) : Host.Outcome State Fault Refusal :=
  event (supplyMeasured v) s

/-- TEMPERATURE_MEASUREMENT (03 R49): step (2) of the row cycle in progress. -/
def execTemperatureMeasurement (t : Int) (s : State) : Host.Outcome State Fault Refusal :=
  event (doRowTemperature t) s

/-- HEAD_LOAD (03 R55). -/
def execHeadLoad (s : State) : Host.Outcome State Fault Refusal :=
  event (fun s => s.onPe doHeadLoad) s

/-- STROBE_END (03 R55). -/
def execStrobeEnd (s : State) : Host.Outcome State Fault Refusal :=
  event (fun s => s.onPe doStrobeEnd) s

/-- MOTOR_STEP (03 R62). -/
def execMotorStep (v : Nat) (s : State) : Host.Outcome State Fault Refusal := event (motorSteps v) s

/-- WAIT_LIST_SERVICE (01 R4). -/
def execWaitListService (s : State) : Host.Outcome State Fault Refusal := event serveWaitList s

/-- PENDING_BLOCK_APPEND (01 R5): the block, and then the wait list (01 R4). -/
def execPendingBlockAppend (s : State) : Host.Outcome State Fault Refusal :=
  event (fun s => if s.pq.pendingBlock.isSome then serveWaitList s else s) s

/-- FAR_HOLD_TIMEOUT (01 R17). -/
def execFarHoldTimeout (s : State) : Host.Outcome State Fault Refusal :=
  event (fun s => if farHoldRuns s then commitRequest .far s else s) s

end Sys2Proof.Machine
end

