-- ==== Sys2Proof/Machine/ExecFar.lean ====
section
/-! DEFINITION. Meanings of the directive parser events (06) and of the report feeder's (09). -/

namespace Sys2Proof.Machine

/-- DIRECTIVE_BYTE_TAKE (06 R117). -/
def execDirectiveByteTake (s : State) : Host.Outcome State Fault Refusal := event takeDirectiveByte s

/-- DIRECTIVE_TIMEOUT (06 R123). -/
def execDirectiveTimeout (s : State) : Host.Outcome State Fault Refusal := event directiveTimedOut s

/-- REPLY_ADD (06 R126). -/
def execReplyAdd (s : State) : Host.Outcome State Fault Refusal := event addReply s

/-- REPORT_BYTE_ADD (09 R185). -/
def execReportByteAdd (s : State) : Host.Outcome State Fault Refusal := event feedReport s

end Sys2Proof.Machine
end

