-- ==== Sys2Proof/Machine/ExecKeys.lean ====
section
/-! DEFINITION. Meanings of the keyboard events (07, 08). -/

namespace Sys2Proof.Machine

/-- SCAN_REQUEST (07 R134). -/
def execScanRequest (s : State) : Host.Outcome State Fault Refusal := event askScan s

/-- KEY_ROW_SCAN (07 R135). -/
def execKeyRowScan (closed : BitVec 10) (s : State) : Host.Outcome State Fault Refusal :=
  event (rowScan closed) s

/-- TYPEMATIC_TIMER (07 R146). -/
def execTypematicTimer (s : State) : Host.Outcome State Fault Refusal := event typematicRunsOut s

/-- KEY_EVENT_EXAMINE (08 R153). -/
def execKeyEventExamine (s : State) : Host.Outcome State Fault Refusal := event examine s

end Sys2Proof.Machine
end

