-- ==== Sys2Proof/Machine/LinkEvents.lean ====
section
/-! DEFINITION. Events of the coupler link and the framer (04, 05): carrier, timers, received characters,
space runs, and the transmitter's ends. -/

namespace Sys2Proof.Machine

/-- Carrier present with the raw level L: taken while the receiver is on and L is at the threshold or
above (04 R73; log entry 30). -/
def carrierPresent (level : Int) (s : State) : State :=
  if s.link.state ≠ .down ∧ s.opt 13 ≤ clampLevel level then measureLevel level s else s

/-- Carrier absent with the raw level L: taken while the receiver is on and L is below the threshold. -/
def carrierAbsent (level : Int) (s : State) : State :=
  if s.link.state ≠ .down ∧ clampLevel level < s.opt 13 then measureLevel level s else s

/-- The connect-wait timer expires before ONLINE (04 R76). -/
def connectWaitExpires (s : State) : State :=
  match s.link.state with
  | .listen => if s.link.connectWait.isSome then enterDown .timeout true s else s
  | .answering => if s.link.connectWait.isSome then enterDown .timeout true s else s
  | .qualify => if s.link.connectWait.isSome then enterDown .timeout true s else s
  | _ => s

/-- The qualify timer expires in QUALIFY (04 R79). -/
def qualifyExpires (s : State) : State :=
  if s.link.state = .qualify ∧ s.link.qualify.isSome then qualifyDone s else s

/-- The holdover timer expires in FADE (04 R82). -/
def holdoverExpires (s : State) : State :=
  if s.link.state = .fade ∧ s.link.holdover.isSome then enterDown .carrier false s else s

/-- The framer behind the first stop bit of a character framed by `f`: READY after mark, WAIT MARK after
space (05 R98 (4)). A mark ends a space run; behind a space a run is in progress, the one that began at
the start bit if no bit was mark, else one that began at the last space after mark within the
character (04 R88). -/
def afterStopBit (f : Framing) (stopMark : Bool) (s : State) : State :=
  (s.onFramer fun fr => { fr with rx := if stopMark then .ready else .waitMark }).onLink
    fun l => { l with spaceRun := if stopMark then none else some (l.spaceRun.getD f) }

/-- A character in ASSEMBLING completes: code and error kind, RXF, the gain at level L (05 R98 to R100,
04 R84, R85). A level below field 13 is held as L and makes no carrier event, which is CARRIER_ABSENT's
(DESIGN CHOICE, log entry 30). -/
def characterCompletes (data : Byte) (parityBit stopMark : Bool) (level : Int) (s : State) : State :=
  match s.framer.rx with
  | .assembling f =>
    let s1 := s.onLink fun l => { l with level := some (clampLevel level) }
    afterStopBit f stopMark
      (gainAtCharacter (takeCharacter (sampledCode f data) (errorKind f data parityBit stopMark) s1))
  | _ => s

/-- The receive framing in force: that of the character being assembled, else the fields as they stand
(04 R88, 05 R97). -/
def receiveFraming (s : State) : Framing :=
  match s.framer.rx with
  | .assembling f => f
  | _ => currentFraming s

/-- A space decision after mark: a space run begins, and in READY a start bit, which is false when the
line is mark at its middle (05 R98 (3), 04 R88). -/
def spaceBegins (midSpace : Bool) (s : State) : State :=
  if s.link.state ≠ .online then s
  else
    let s1 := s.onLink fun l =>
      { l with spaceRun := if l.spaceRun.isNone then some (receiveFraming s) else l.spaceRun }
    if s.framer.rx = .ready then
      if midSpace then s1.onFramer fun fr => { fr with rx := .assembling (currentFraming s) }
      else s1.onLink fun l => { l with spaceRun := none }
    else s1

/-- A mark decision: WAIT MARK ends, and so does a space run; one that ends a break pending run is a
received break (05 R98 (2), 04 R88, R89; log entry 21). -/
def markSeen (s : State) : State :=
  if s.link.state ≠ .online then s
  else if s.link.breakPending then receiveBreak s
  else
    (s.onFramer fun fr => { fr with rx := if fr.rx = .waitMark then .ready else fr.rx }).onLink
      fun l => { l with spaceRun := none }

/-- A space run reaches two character times (04 R88, 05 R98 (5)). -/
def breakBecomesPending (s : State) : State :=
  if s.link.state = .online ∧ s.link.spaceRun.isSome then
    (s.onLink fun l => { l with breakPending := true }).onFramer fun fr => { fr with rx := .waitMark }
  else s

/-- A break pending run ends at mark before 1.6 s (04 R89). -/
def breakEnds (s : State) : State :=
  if s.link.state = .online ∧ s.link.breakPending then receiveBreak s else s

/-- A space run reaches 1.6 s (04 R90). -/
def disconnectSpace (s : State) : State :=
  if s.link.state = .online ∧ s.link.spaceRun.isSome then enterDown .disconnectSpace false s else s

/-- The 300 ms of a break send have passed (04 R91 (3)). -/
def breakSendEnds (s : State) : State :=
  if s.link.breakSend = .sending then txPump (s.onLink fun l => { l with breakSend := .none }) else s

/-- The character in flight ends: a waiting break send begins, else the next byte is taken
(04 R91 (2), 05 R109). -/
def transmitEnds (s : State) : State :=
  if s.framer.inFlight.isNone then s
  else
    let s1 := s.onFramer fun fr => { fr with inFlight := none }
    if s.link.breakSend = .waiting then s1.onLink fun l => { l with breakSend := .sending }
    else txPump s1

end Sys2Proof.Machine
end

