-- ==== Sys2Proof/Machine/ExecLink.lean ====
section
/-! DEFINITION. Meanings of the coupler link events (04) and of the framer's (05). -/

namespace Sys2Proof.Machine

/-- CARRIER_PRESENT (04 R73). -/
def execCarrierPresent (level : Int) (s : State) : Host.Outcome State Fault Refusal :=
  event (carrierPresent level) s

/-- CARRIER_ABSENT (04 R73). -/
def execCarrierAbsent (level : Int) (s : State) : Host.Outcome State Fault Refusal :=
  event (carrierAbsent level) s

/-- CONNECT_WAIT_EXPIRY (04 R76). -/
def execConnectWaitExpiry (s : State) : Host.Outcome State Fault Refusal := event connectWaitExpires s

/-- QUALIFY_EXPIRY (04 R79). -/
def execQualifyExpiry (s : State) : Host.Outcome State Fault Refusal := event qualifyExpires s

/-- HOLDOVER_EXPIRY (04 R82). -/
def execHoldoverExpiry (s : State) : Host.Outcome State Fault Refusal := event holdoverExpires s

/-- CHARACTER_RECEIVED (05 R100). -/
def execCharacterReceived (data : Byte) (parityBit stopMark : Bool) (level : Int) (s : State) :
    Host.Outcome State Fault Refusal :=
  event (characterCompletes data parityBit stopMark level) s

/-- START_BIT (05 R98). -/
def execStartBit (midSpace : Bool) (s : State) : Host.Outcome State Fault Refusal :=
  event (spaceBegins midSpace) s

/-- MARK_DECISION (05 R98). -/
def execMarkDecision (s : State) : Host.Outcome State Fault Refusal := event markSeen s

/-- BREAK_PENDING (04 R88). -/
def execBreakPending (s : State) : Host.Outcome State Fault Refusal := event breakBecomesPending s

/-- RECEIVED_BREAK (04 R89). -/
def execReceivedBreak (s : State) : Host.Outcome State Fault Refusal := event breakEnds s

/-- DISCONNECT_SPACE (04 R90). -/
def execDisconnectSpace (s : State) : Host.Outcome State Fault Refusal := event disconnectSpace s

/-- BREAK_SEND_END (04 R91). -/
def execBreakSendEnd (s : State) : Host.Outcome State Fault Refusal := event breakSendEnds s

/-- TRANSMIT_CHARACTER_END (05 R109). -/
def execTransmitCharacterEnd (s : State) : Host.Outcome State Fault Refusal := event transmitEnds s

end Sys2Proof.Machine
end

