-- ==== Sys2Proof/Machine/ExecPort.lean ====
section
/-! DEFINITION. Meanings of the port strobes, of reset and power, and of the store events (11). -/

namespace Sys2Proof.Machine

/-- COMMAND_BYTE_WRITE (11 R200): a write at A0 = 0. -/
def execCommandByteWrite (b : Byte) (s : State) : Host.Outcome State Fault Refusal :=
  event (writeByte b) s

/-- PORT_CLEAR (11 R200): a write at A0 = 1. -/
def execPortClear (s : State) : Host.Outcome State Fault Refusal := event clearPort s

/-- OUTPUT_FIFO_READ (11 R198): a read at A0 = 0. -/
def execOutputFifoRead (s : State) : Host.Outcome State Fault Refusal := event readOutput s

/-- STATUS_BYTE_READ (11 R199): a read at A0 = 1. -/
def execStatusByteRead (s : State) : Host.Outcome State Fault Refusal := event readStatus s

/-- RESET_ASSERT (11 R208). -/
def execResetAssert (s : State) : Host.Outcome State Fault Refusal := .next (assertReset s)

/-- RESET_RELEASE (11 R208), with the level of STORESEL. -/
def execResetRelease (storesel : Bool) (s : State) : Host.Outcome State Fault Refusal :=
  .next (releaseReset storesel s)

/-- STORE_LOAD_END (11 R204), with the address byte of the load that the store left unacknowledged. -/
def execStoreLoadEnd (missed : Option Nat) (s : State) : Host.Outcome State Fault Refusal :=
  event (loadEvent missed) s

/-- SAVE_WRITE_DONE (11 R205): a poll is acknowledged. -/
def execSaveWriteDone (s : State) : Host.Outcome State Fault Refusal := saveEvent writeDone s

/-- SAVE_POLL_TIMEOUT (11 R205): no poll is acknowledged within 10 ms. -/
def execSavePollTimeout (s : State) : Host.Outcome State Fault Refusal :=
  saveEvent (fun stage _ _ => writeFails stage) s

/-- SAVE_WRITE_NO_ACKNOWLEDGE (11 R205): a byte of the transaction is left unacknowledged. -/
def execSaveWriteNoAcknowledge (s : State) : Host.Outcome State Fault Refusal :=
  saveEvent (fun stage _ _ => writeFails stage) s

/-- KEY_WAKE_CLOSURE (07 R148), with the keys closed at the event and at the dormant entry before it;
left out, every key is closed and none was. -/
def execKeyWakeClosure (s : State) (closed : BitVec 80 := 0xFFFFFFFFFFFFFFFFFFFF#80)
    (atEntry : BitVec 80 := 0#80) : Host.Outcome State Fault Refusal :=
  event (wakeByKey closed atEntry) s

/-- WAKING_END (03 R67, 11 R207). -/
def execWakingEnd (s : State) : Host.Outcome State Fault Refusal := event endWaking s

end Sys2Proof.Machine
end

