-- ==== Sys2Proof/Machine/Dispatch.lean ====
section
/-! DEFINITION. One arm per command: a direct call of its meaning. -/

namespace Sys2Proof.Machine

def exec (i : Instr) (s : State) : Host.Outcome State Fault Refusal :=
  match i with
  | .status payload => Sys2Proof.Machine.execStatus payload s
  | .saveStore payload => Sys2Proof.Machine.execSaveStore payload s
  | .dormant payload => Sys2Proof.Machine.execDormant payload s
  | .setOption payload => Sys2Proof.Machine.execSetOption payload s
  | .getOption payload => Sys2Proof.Machine.execGetOption payload s
  | .printText payload => Sys2Proof.Machine.execPrintText payload s
  | .endLine payload => Sys2Proof.Machine.execEndLine payload s
  | .feed payload => Sys2Proof.Machine.execFeed payload s
  | .purge payload => Sys2Proof.Machine.execPurge payload s
  | .printStop payload => Sys2Proof.Machine.execPrintStop payload s
  | .printGo payload => Sys2Proof.Machine.execPrintGo payload s
  | .loadCharacter payload => Sys2Proof.Machine.execLoadCharacter payload s
  | .linkOriginate payload => Sys2Proof.Machine.execLinkOriginate payload s
  | .linkAnswer payload => Sys2Proof.Machine.execLinkAnswer payload s
  | .linkDrop payload => Sys2Proof.Machine.execLinkDrop payload s
  | .send payload => Sys2Proof.Machine.execSend payload s
  | .sendBreak payload => Sys2Proof.Machine.execSendBreak payload s
  | .loadKeymap payload => Sys2Proof.Machine.execLoadKeymap payload s
  | .loadForm payload => Sys2Proof.Machine.execLoadForm payload s
  | .deleteForm payload => Sys2Proof.Machine.execDeleteForm payload s
  | .openForm payload => Sys2Proof.Machine.execOpenForm payload s
  | .setField payload => Sys2Proof.Machine.execSetField payload s
  | .getField payload => Sys2Proof.Machine.execGetField payload s
  | .commitForm payload => Sys2Proof.Machine.execCommitForm payload s
  | .cancelForm payload => Sys2Proof.Machine.execCancelForm payload s
  | .unknownCommand code payload => Sys2Proof.Machine.execUnknownCommand code payload s
  | .commandByteWrite b => Sys2Proof.Machine.execCommandByteWrite b s
  | .portClear => Sys2Proof.Machine.execPortClear s
  | .outputFifoRead => Sys2Proof.Machine.execOutputFifoRead s
  | .statusByteRead => Sys2Proof.Machine.execStatusByteRead s
  | .resetAssert => Sys2Proof.Machine.execResetAssert s
  | .resetRelease storesel => Sys2Proof.Machine.execResetRelease storesel s
  | .storeLoadEnd missed => Sys2Proof.Machine.execStoreLoadEnd missed s
  | .saveWriteDone => Sys2Proof.Machine.execSaveWriteDone s
  | .savePollTimeout => Sys2Proof.Machine.execSavePollTimeout s
  | .saveWriteNoAcknowledge => Sys2Proof.Machine.execSaveWriteNoAcknowledge s
  | .keyWakeClosure closed atEntry => Sys2Proof.Machine.execKeyWakeClosure s closed atEntry
  | .wakingEnd => Sys2Proof.Machine.execWakingEnd s
  | .paperAbsent => Sys2Proof.Machine.execPaperAbsent s
  | .paperPresent => Sys2Proof.Machine.execPaperPresent s
  | .paperCountExpiry => Sys2Proof.Machine.execPaperCountExpiry s
  | .leverOpen => Sys2Proof.Machine.execLeverOpen s
  | .leverClosed => Sys2Proof.Machine.execLeverClosed s
  | .leverCountExpiry => Sys2Proof.Machine.execLeverCountExpiry s
  | .hotMeasurement t => Sys2Proof.Machine.execHotMeasurement t s
  | .lowSupplyMeasurement v => Sys2Proof.Machine.execLowSupplyMeasurement v s
  | .temperatureMeasurement t => Sys2Proof.Machine.execTemperatureMeasurement t s
  | .headLoad => Sys2Proof.Machine.execHeadLoad s
  | .strobeEnd => Sys2Proof.Machine.execStrobeEnd s
  | .motorStep v => Sys2Proof.Machine.execMotorStep v s
  | .waitListService => Sys2Proof.Machine.execWaitListService s
  | .pendingBlockAppend => Sys2Proof.Machine.execPendingBlockAppend s
  | .farHoldTimeout => Sys2Proof.Machine.execFarHoldTimeout s
  | .scanRequest => Sys2Proof.Machine.execScanRequest s
  | .keyRowScan closed => Sys2Proof.Machine.execKeyRowScan closed s
  | .typematicTimer => Sys2Proof.Machine.execTypematicTimer s
  | .keyEventExamine => Sys2Proof.Machine.execKeyEventExamine s
  | .carrierPresent level => Sys2Proof.Machine.execCarrierPresent level s
  | .carrierAbsent level => Sys2Proof.Machine.execCarrierAbsent level s
  | .connectWaitExpiry => Sys2Proof.Machine.execConnectWaitExpiry s
  | .qualifyExpiry => Sys2Proof.Machine.execQualifyExpiry s
  | .holdoverExpiry => Sys2Proof.Machine.execHoldoverExpiry s
  | .characterReceived data parityBit stopMark level => Sys2Proof.Machine.execCharacterReceived data parityBit stopMark level s
  | .startBit midSpace => Sys2Proof.Machine.execStartBit midSpace s
  | .markDecision => Sys2Proof.Machine.execMarkDecision s
  | .breakPending => Sys2Proof.Machine.execBreakPending s
  | .receivedBreak => Sys2Proof.Machine.execReceivedBreak s
  | .disconnectSpace => Sys2Proof.Machine.execDisconnectSpace s
  | .breakSendEnd => Sys2Proof.Machine.execBreakSendEnd s
  | .transmitCharacterEnd => Sys2Proof.Machine.execTransmitCharacterEnd s
  | .directiveByteTake => Sys2Proof.Machine.execDirectiveByteTake s
  | .directiveTimeout => Sys2Proof.Machine.execDirectiveTimeout s
  | .replyAdd => Sys2Proof.Machine.execReplyAdd s
  | .reportByteAdd => Sys2Proof.Machine.execReportByteAdd s

end Sys2Proof.Machine
end

