-- ==== Sys2Proof/Machine/Step.lean ====
section
/-! DEFINITION. One step of the machine: the command at the front of the queue, or an idle step. -/

namespace Sys2Proof.Machine

/-- The two counts that a rule compares with something else advance by 1 ms: the time since the last
code the FAR line took, while the line holds a cell (01 R17), and the time a key row scan has waited
(03 R60) (log entries 4 and 17). -/
def tick (s : State) : State :=
  if s.pins.resetAsserted then s
  else
    { s with
      la := { s.la with
        farHoldMs := if s.la.far.cells.isEmpty then s.la.farHoldMs else s.la.farHoldMs + 1 }
      pe := { s.pe with scanWait := s.pe.scanWait.map (· + 1) } }

/-- One step: `exec` of the command at the front on the state with the queue's rest; on an empty queue
the block idles for 1 ms. -/
def step (s : State) : Host.Outcome State Fault Refusal :=
  match s.pending with
  | [] => .next (tick s)
  | c :: rest => exec c { s with pending := rest }

/-- The state with the command that a word of the table spells at the front of its queue; unchanged
where the word spells none. -/
def State.withFetchWord (s : State) (nbits w : Nat) : State :=
  match decodeTableWord nbits w with
  | some c => { s with pending := c :: s.pending }
  | none => s

end Sys2Proof.Machine
end

