-- ==== Sys2Proof/Safety.lean ====
section
/-! DEFINITION. What the statements speak of: the frame that a command row writes, a port that is ready to run
a frame, and the rules that hold of the machine at all times. -/

namespace Sys2Proof.Machine

/-! ### Frames and the ready port -/

/-- The command code and payload of a command frame row; none for every other row (Table 11-2). -/
def frameOf : Instr → Option (Byte × List Byte)
  | .status p => some (0x01, p)
  | .saveStore p => some (0x02, p)
  | .dormant p => some (0x03, p)
  | .setOption p => some (0x08, p)
  | .getOption p => some (0x09, p)
  | .printText p => some (0x10, p)
  | .endLine p => some (0x11, p)
  | .feed p => some (0x12, p)
  | .purge p => some (0x13, p)
  | .printStop p => some (0x14, p)
  | .printGo p => some (0x15, p)
  | .loadCharacter p => some (0x16, p)
  | .linkOriginate p => some (0x20, p)
  | .linkAnswer p => some (0x21, p)
  | .linkDrop p => some (0x22, p)
  | .send p => some (0x23, p)
  | .sendBreak p => some (0x24, p)
  | .loadKeymap p => some (0x28, p)
  | .loadForm p => some (0x30, p)
  | .deleteForm p => some (0x31, p)
  | .openForm p => some (0x32, p)
  | .setField p => some (0x33, p)
  | .getField p => some (0x34, p)
  | .commitForm p => some (0x35, p)
  | .cancelForm p => some (0x36, p)
  | .unknownCommand c p => some (c, p)
  | _ => none

/-- No RESET, and no notice left over from an earlier event. -/
def Awake (s : State) : Prop := s.pins.resetAsserted = false ∧ s.raised = []

/-- The port takes a whole frame and runs it at its last byte: RESET released, not dormant, no frame
and no byte in the command FIFO, 38 free places in the output FIFO (11 R200, R201). -/
def PortReady (s : State) : Prop :=
  Awake s ∧ s.port.power ≠ .dormant ∧ s.port.frames = [] ∧ s.port.parser = .code
    ∧ s.port.out.length ≤ 90

/-- The port is ready, and the store is not LOADING, so that a command is taken by its own rule
(11 R201 (3)). -/
def CommandReady (s : State) : Prop := PortReady s ∧ s.store.state.isLoading = false

/-- The port is ready, and the store is IDLE. -/
def StoreIdle (s : State) : Prop := PortReady s ∧ s.store.state = .idle

/-- The state with bytes joined to the output FIFO and nothing else changed. -/
def State.answered (s : State) (bytes : List Byte) : State :=
  s.onPort fun p => { p with out := p.out ++ bytes }

/-! ### Template images -/

/-- The field record of an image (Table 9-2), a default written as its value text. -/
def Field.record (f : Field) : List Byte :=
  [byteOf f.id, byteOf f.line, byteOf f.col, byteOf f.width, f.kind.byte,
    byteOf ((if f.required then 1 else 0) + (if f.protect then 2 else 0)),
    byteOf f.qref, byteOf f.pref, byteOf f.label.length]
    ++ f.label
    ++ match f.default with
      | none => [0xFF#8]
      | some v => byteOf (valueText f.kind v).length :: valueText f.kind v

/-- The image of a font, its text lines and its field records (09 R165, Table 9-1). -/
def templateImage (font : Font) (lines : List (List Byte)) (fields : List Field) : List Byte :=
  [if font = .std then 0 else 1, byteOf lines.length, byteOf fields.length]
    ++ lines.flatMap (fun ln => byteOf ln.length :: ln)
    ++ fields.flatMap Field.record

/-! ### Effects that several rows share

In each of them `ends v bytes` stands for: the event ends in `v`, with `bytes` behind what the output
FIFO holds by then. -/

/-- The decision of a HELD engine whose hold cause set has become empty, no direct feed behind it
(03 R39): IDLE without an entry; else the head entry's next row, a feed or spacing row or a printed row
that a temperature measurement opens, or LOW SUPPLY below 50 dV. -/
def HeldEngineDecides (u : State) (ends : State → List Byte → Prop) : Prop :=
  (u.pq.entries = [] →
    ends { u with pe := { u.pe with engine := .idle, history := 0, forced := true } } [])
  ∧ ∀ (e : Entry) (rest : List Entry) (began : PrintEngine → State), u.pq.entries = e :: rest →
    (∀ pe, began pe = { u with pe := pe, pq := { u.pq with inPrint := true } }) →
    (u.pins.vsense < 50 →
      ends { u with pe := { u.pe with hold := { noHold with lowSupply := true } } } [0x4C, 0x01, 0x02])
    ∧ (50 ≤ u.pins.vsense →
      (((∃ n, e.body = .feed n) ∨ ∃ f cells rot sp, e.body = .text f cells rot sp ∧ f.h ≤ u.pe.entryRow) →
        ends (began { u.pe with engine := .feeding, lastV := some u.pins.vsense, row := .stepFeed }) [])
      ∧ (∀ f cells rot sp, e.body = .text f cells rot sp → u.pe.entryRow < f.h →
        u.pe.forced = true ∨ u.pe.cadM ≤ u.pe.cadS + 1 ∨ u.pe.lastT = none →
        ends (began { u.pe with
          engine := .printing, lastV := some u.pins.vsense, feedRun := 0, cadS := u.pe.cadS + 1
          row := .tempWait
            { v := u.pins.vsense, txOn := u.link.transmitterOn
              wb := u.tor.nums.getD 21 0, k := u.tor.nums.getD 22 0, h := u.tor.nums.getD 23 0
              r := u.tor.nums.getD 24 0, ib := u.tor.nums.getD 25 0
              itx := u.tor.nums.getD 26 0 } }) []))

/-- A far-end write of the value `v` to field `n`, handed to the record in the state `u`, gives the state
`t` (10 R194, R195): refused with SET, STATE or RANGE, or taken with OPTION CHANGED; exact for the
fields that set nothing off at once, and for 1, 32, 33 and 36 with KQ empty. -/
def FarWriteTaken (n : Nat) (v : List Byte) (u t : State) : Prop :=
  (∀ r : Byte,
    (r = 0 ∧ (n = 39 ∨ u.tor.farSet.getLsbD (n - 1) = false))
      ∨ (r = 1 ∧ n = 31 ∧ u.tor.farSet.getLsbD 30 = true
          ∧ ∃ i, u.fu.inst = some i ∧ (i.phase = .pending ∨ i.phase = .reporting))
      ∨ (r = 2 ∧ n ≠ 31 ∧ n ≠ 38 ∧ n ≠ 39 ∧ u.tor.farSet.getLsbD (n - 1) = true
          ∧ bringIntoRange n (signedDigits v) = none) →
    t = u.answered ([0x51, byteOf (2 + min 20 v.length), byteOf n, r] ++ v.take 20))
  ∧ (n = 38 → u.tor.farSet.getLsbD 37 = true →
      t = { u with tor := { u.tor with answerback := v.take 20 } }.answered
        ([0x50, byteOf (1 + min 20 v.length), 38] ++ v.take 20))
  ∧ ∀ y, n ≠ 38 → n ≠ 39 → u.tor.farSet.getLsbD (n - 1) = true →
      (n = 31 → ∀ i, u.fu.inst = some i → i.phase = .opened) →
      bringIntoRange n (signedDigits v) = some y →
      t.tor = { u.tor with nums := u.tor.nums.set (n - 1) y }
      ∧ (n ∈ [2, 3, 4, 5, 7, 8, 14, 15, 16, 17, 19, 20, 22, 23, 24, 25, 26, 27, 28, 29, 30, 34, 35, 37]
          ∨ (n ∈ [1, 32, 33, 36] ∧ u.ks.kq = []) →
        t = { u with tor := { u.tor with nums := u.tor.nums.set (n - 1) y } }.answered
          ([0x50, 0x03, byteOf n] ++ bytes16 y))

/-- The KEY line and the form unit's list for it hold nothing, so that a commit request writes
nothing (09 R172). -/
def KeyLineQuiet (s : State) : Prop :=
  s.la.key.cells = [] ∧ s.la.key.waiting = [] ∧ s.fu.keyOut = []

/-- An open request for template `n` by the origin `o`, the far end or a key (09 R170, R171); the prompt
is shown for field 36 = 0. -/
def OpenIsTaken (o : Byte) (n : Nat) (s : State) (ends : State → List Byte → Prop) : Prop :=
  (∀ i, s.fu.inst = some i → ends s [0x58, 0x04, i.phase.byte, byteOf n, 0x07, o])
  ∧ (s.fu.inst = none → s.fu.slots.getD (n - 1) none = none →
      ends s [0x58, 0x04, 0x00, byteOf n, 0x08, o])
  ∧ ∀ t, s.fu.inst = none → s.fu.slots.getD (n - 1) none = some t → s.tor.nums.getD 35 0 = 0 →
      KeyLineQuiet s → ∃ j : FormInst,
        ends { s with fu := { s.fu with inst := some j } } [0x58, 0x04, 0x01, byteOf n, 0x00, o]
        ∧ j.phase = .opened ∧ j.number = n ∧ j.vals.map FieldVal.id = t.fields.map Field.id
        ∧ (∀ v ∈ j.vals, v.writer = .nobody)
        ∧ (∀ f, t.field? f.id = some f → f.kind.entered = true →
            valueOf j.vals f.id = f.default.getD .empty)
        ∧ j.current = (t.fields.find? fun f => f.kind.entered && !f.protect).map Field.id

/-- A commit request by the origin `o`, the far end or a key (09 R170, R181, R184); shown for field
36 = 0 and an engine that is not IDLE. -/
def CommitIsTaken (o : Byte) (s : State) (ends : State → List Byte → Prop) : Prop :=
  (s.fu.inst = none → ends s [0x58, 0x04, 0x00, 0x00, 0x07, o])
  ∧ (∀ i, s.fu.inst = some i → i.phase ≠ .opened →
      ends s [0x58, 0x04, i.phase.byte, byteOf i.number, 0x07, o])
  ∧ ∀ (i : FormInst) (fails : Field → Bool), s.fu.inst = some i → i.phase = .opened →
    (∀ f, fails f = ((f.required && valueOf i.vals f.id == .empty) || valueOf i.vals f.id == .overflow)) →
    (∀ f, s.formTemplate.fields.find? fails = some f →
      ((f.kind.entered = false ∨ f.protect = true ∨ i.current = some f.id) →
        ends s [0x59, 0x02, byteOf f.id, o])
      ∧ (f.kind.entered = true → f.protect = false → i.current ≠ some f.id → s.tor.nums.getD 35 0 = 0 →
        KeyLineQuiet s →
        ends { s with fu := { s.fu with inst := some { i with
          current := some f.id, edit := valueText f.kind (valueOf i.vals f.id) } } }
          [0x59, 0x02, byteOf f.id, o]))
    ∧ ∀ block : List Entry, s.formTemplate.fields.find? fails = none → s.pe.engine ≠ .idle →
      KeyLineQuiet s →
      block = formBlock s.formTemplate i.vals (s.tor.nums.getD 18 0).toNat
        (s.tor.nums.getD 29 0).toNat (decide (s.tor.nums.getD 28 0 = 1)) →
      (block.length + s.pq.entries.length ≤ 40 → s.pq.pendingBlock = none →
        (s.tor.nums.getD 36 0 ≠ 1 ∨ s.link.state ≠ .online →
          ends { s with
            pq := { s.pq with entries := s.pq.entries ++ block }, fu := { s.fu with inst := none } }
            [0x58, 0x04, 0x00, byteOf i.number, 0x03, o])
        ∧ (s.tor.nums.getD 36 0 = 1 → s.link.state = .online →
          ends { s with
            pq := { s.pq with entries := s.pq.entries ++ block }
            fu := { s.fu with inst := some { i with
              phase := .reporting, reportPos := 0
              report := reportText s.formTemplate i.number i.vals } } }
            [0x58, 0x04, 0x03, byteOf i.number, 0x02, o]))
      ∧ (40 < block.length + s.pq.entries.length → s.pq.entries.length ≤ 40 →
        ends { s with
          pq := { s.pq with pendingBlock := some block }
          fu := { s.fu with inst := some { i with phase := .pending } } }
          [0x58, 0x04, 0x02, byteOf i.number, 0x01, o])

/-- A cancel request by the origin `o`, the far end or a key (09 R170, R187). -/
def CancelIsTaken (o : Byte) (s : State) (ends : State → List Byte → Prop) : Prop :=
  (∀ i, s.fu.inst = some i → i.phase = .opened →
    ends { s with fu := { s.fu with inst := none } } [0x58, 0x04, 0x00, 0x00, 0x06, o])
  ∧ (∀ i, s.fu.inst = some i → i.phase = .pending → s.pq.waitList = [] →
    ends { s with fu := { s.fu with inst := none }, pq := { s.pq with pendingBlock := none } }
      [0x58, 0x04, 0x00, 0x00, 0x06, o])
  ∧ (s.fu.inst = none → ends s [0x58, 0x04, 0x00, 0x00, 0x07, o])
  ∧ ∀ i, s.fu.inst = some i → i.phase ≠ .opened → i.phase ≠ .pending →
    ends s [0x58, 0x04, i.phase.byte, byteOf i.number, 0x07, o]

/-! ### Rules that hold at all times -/

/-- The capacities of Table 1-5: PQ, RXF, TXQ, KQ, the down list, the command FIFO and the output FIFO
(01 R1, 05 R101, R108, 07 R141, R144, 11 R200, R202). -/
def WithinCapacity (s : State) : Prop :=
  s.pq.entries.length ≤ 40 ∧ s.framer.rxf.length ≤ 64
    ∧ s.framer.flow.length ≤ 2 ∧ s.framer.data.length ≤ 158
    ∧ s.ks.kq.length ≤ 16 ∧ s.ks.downList.length ≤ 6 ∧ s.port.commandCount ≤ 80
    ∧ s.port.out.length ≤ 128

/-- A value that the kind of a field can hold (09 R169, R180). -/
def Field.holds (f : Field) : Value → Prop
  | .empty => True
  | .text cs => f.kind = .text ∧ cs.length ≤ f.width
  | .num n =>
    match f.kind with
    | .text => False
    | .qty => n ≤ 99999
    | .price => n ≤ 9999999
    | .ext => n ≤ 999999999
    | .total => n ≤ 999999999
    | .tax => n ≤ 250000000
    | .grand => n ≤ 1250000000
  | .overflow => f.kind.entered = false

/-- An edit string that keyed entry can give a field (Table 9-3). -/
def Field.editable (f : Field) (edit : List Byte) : Prop :=
  match f.kind with
  | .text => edit.length ≤ f.width
  | .qty => edit.length ≤ 5 ∧ edit.all isDigit = true
  | .price =>
    (wholeDigits edit).length ≤ 5 ∧ (wholeDigits edit).all isDigit = true
      ∧ (fractionDigits edit).length ≤ 2 ∧ (fractionDigits edit).all isDigit = true
  | _ => True

/-- The template keeps 09 R164: its lines fit its font, its field records stand by rising id, and each of
them lies within the template with references, label and default of its kind. -/
def Template.WithinR164 (t : Template) : Prop :=
  1 ≤ t.lines.length ∧ t.lines.length ≤ 12 ∧ (∀ ln ∈ t.lines, ln.length ≤ t.font.columns)
    ∧ t.fields.Pairwise (fun f g => f.id < g.id)
    ∧ (∀ f ∈ t.fields, ∀ g ∈ t.fields, f.id ≠ g.id → f.line = g.line →
        f.col + f.width ≤ g.col ∨ g.col + g.width ≤ f.col)
    ∧ (∀ k ∈ [FieldKind.total, .tax, .grand], t.fields.countP (fun f => f.kind == k) ≤ 1)
    ∧ ∀ f ∈ t.fields, 1 ≤ f.id ∧ f.id ≤ 16 ∧ f.line < t.lines.length
        ∧ 1 ≤ f.width ∧ f.width ≤ 32 ∧ f.col + f.width ≤ t.font.columns
        ∧ f.label.length ≤ 12 ∧ (∀ b ∈ f.label, 0x20 ≤ b.toNat ∧ b.toNat ≤ 0x7E)
        ∧ (f.kind = .ext → (∃ q ∈ t.fields, q.id = f.qref ∧ q.kind = .qty)
            ∧ ∃ p ∈ t.fields, p.id = f.pref ∧ p.kind = .price)
        ∧ (f.kind ≠ .ext → f.qref = 0 ∧ f.pref = 0)
        ∧ ∀ v, f.default = some v → f.kind.entered = true ∧ f.holds v

/-- The form unit within 09 R164 and R169: every template's fields stand apart, are at most 32 wide, and
have defaults of their kind; the form instance is of a template 1 to 8, every value of it is one of its
field's kind, and the edit string is one of the current field's. -/
def FormsWithinKinds (s : State) : Prop :=
  (∀ t, some t ∈ s.fu.slots → fieldsApart t.fields = true
    ∧ ∀ f ∈ t.fields, f.width ≤ 32 ∧ ∀ v, f.default = some v → f.kind.entered = true ∧ f.holds v)
  ∧ ∀ i, s.fu.inst = some i → 1 ≤ i.number ∧ i.number ≤ 8
      ∧ (∀ v ∈ i.vals, ∀ f, s.formTemplate.field? v.id = some f → f.holds v.value)
      ∧ ∀ id f, i.current = some id → s.formTemplate.field? id = some f → f.editable i.edit

/-- The fixed numbers of things: 80 keys in 8 rows, 320 keymap entries, 8 template slots, 32 user glyphs
a font, 4 motor positions, and a save's 203 body pages and 6480 bytes; and no notice waits between
events (02 R29, 03 R62, 07 R133, 08 R151, 09 R164, 11 R202, R205). -/
def FixedSizes (s : State) : Prop :=
  s.ks.keys.length = 80 ∧ s.ks.rowPtr < 8 ∧ s.kr.keymap.length = 320 ∧ s.fu.slots.length = 8
    ∧ s.cg.std.length = 32 ∧ s.cg.cond.length = 32 ∧ s.pe.motorPos < 4
    ∧ (∀ stage page image, s.store.state = .saving stage page image →
        page ≤ 202 ∧ image.length = 6480)
    ∧ s.raised = []

/-- The receive gain is a multiple of 5 within 0 to 420, and the error count lies within 0 to 99
(04 R83, R95). -/
def GainAndErrors (s : State) : Prop :=
  s.link.gain % 5 = 0 ∧ 0 ≤ s.link.gain ∧ s.link.gain ≤ 420 ∧ s.link.errCount ≤ 99

/-- TXQ is empty and the paused state is clear while the link is DOWN (04 R94, 05 R113). -/
def DownIsEmpty (s : State) : Prop :=
  s.link.state = .down →
    s.framer.flow = [] ∧ s.framer.data = [] ∧ s.framer.paused = false

/-- LINK TRAINING stands in the hold cause set exactly while the link is in QUALIFY (03 R45, 04 R78). -/
def TrainingInQualify (s : State) : Prop :=
  s.pe.hold.linkTraining = true ↔ s.link.state = .qualify

/-- The store's memory is in its canonical form and every option lies within its range (10 R189); the
text an unfinished or held far-end write of field 38 holds is answerback text (06 R120, R125). -/
def StoreAndOptions (s : State) : Prop :=
  Memory.wf s.store.mem = true ∧ s.tor.inRange = true
    ∧ (∀ w, s.dp = .storeWait w → w.field = 38 → w.chars.all answerbackCode = true)
    ∧ ∀ bs, s.dp = .args .o bs → 2 ≤ bs.length → fieldNumber bs = 38 →
        (bs.drop 2).all answerbackCode = true

/-- IDLE: no row, no direct feed, hold cause set empty, print queue empty.  HELD: no row, no direct
feed, hold cause set non-empty.  DORMANT and WAKING: no row, no direct feed, and the part in the same
power state (03 R38, R67; 11 R206, R207). -/
def EngineStates (s : State) : Prop :=
  (s.pe.engine = .idle →
    s.pe.hold.isEmpty = true ∧ s.pq.entries = [] ∧ s.pe.row = .idle ∧ s.pe.directFeed = none)
  ∧ (s.pe.engine = .held →
    s.pe.hold.isEmpty = false ∧ s.pe.row = .idle ∧ s.pe.directFeed = none)
  ∧ (s.pe.engine = .dormant ∨ s.pe.engine = .waking → s.pe.row = .idle ∧ s.pe.directFeed = none)
  ∧ (s.pe.engine = .dormant ↔ s.port.power = .dormant)
  ∧ (s.pe.engine = .waking ↔ s.port.power = .waking)

/-- A FORM block is pending exactly while the form instance is COMMIT PENDING, and an instance that
exists is not CLOSED (01 R5, 09 R169, R184). -/
def BlockPendsWithForm (s : State) : Prop :=
  (s.pq.pendingBlock ≠ none ↔ ∃ i, s.fu.inst = some i ∧ i.phase = .pending)
  ∧ ∀ i, s.fu.inst = some i → i.phase ≠ .closed

end Sys2Proof.Machine
end

