-- ==== Sys2Proof/Certificates/Slice0/Obligations.lean ====
section
/-! DEFINITION. The statements about the machine, for the provers. -/

open Sys2Proof Sys2Proof.Machine

/-- A step runs the command at the front of the queue; on an empty queue it is the 1 ms tick of log
entry 4. The queue is the model's (log entry 2), and so is the tick as the step of an empty queue
(log entries 4 and 17). (11 section 11.1 (commands come from outside), 01 R17 (in part), 03 R60 (in
part).) -/
def Obligations.StepTakesTheFrontCommand : Prop :=
  (∀ (c : Instr) (rest : List Instr) (s : State), s.pending = c :: rest →
    step s = exec c { s with pending := rest })
  ∧ ∀ s : State, s.pending = [] →
    (s.pins.resetAsserted = true → step s = .next s)
    ∧ (s.pins.resetAsserted = false → step s = .next { s with
        la := { s.la with farHoldMs :=
          if s.la.far.cells = [] then s.la.farHoldMs else s.la.farHoldMs + 1 }
        pe := { s.pe with scanWait :=
          match s.pe.scanWait with | none => none | some ms => some (ms + 1) } })

/-- RESET_ASSERT abandons every transfer, releases STB, the motor, STCL and STDA, silences SPK; then
nothing else acts (log entry 13). (11 R208 (in part), 03 R68 (in part), 04 R96 (in part), 05 R109
(in part).) -/
def Obligations.ResetAssertAbandonsTransfers : Prop :=
  (∀ s : State, s.pins.resetAsserted = false → ∃ t, exec .resetAssert s = .next t
    ∧ t = { s with
        pins := { s.pins with resetAsserted := true }
        pe := { s.pe with
          row := .idle, bus := .free, loadWait := false, scanWait := none, motorOn := false }
        store := t.store
        link := { s.link with breakSend := .none }
        framer := { s.framer with inFlight := none } }
    ∧ strobeWidth t = none ∧ motorPhases t = (false, false, false, false) ∧ spkOut t = .silent
    ∧ storeLines t = .released ∧ t.store.state = .idle ∧ t.store.fitted = s.store.fitted ∧ t.store.absent = s.store.absent
    ∧ ((∀ page image, s.store.state ≠ .saving .body page image) → t.store.mem = s.store.mem)
    ∧ (Memory.wf s.store.mem = true → ∀ page image, s.store.state = .saving .body page image →
        ∀ a, a < pageStart page ∨ pageEnd page ≤ a → memRead t.store.mem a = memRead s.store.mem a))
  ∧ ∀ (c : Instr) (s : State), s.pins.resetAsserted = true → s.store.state.isSaving = false →
      c.wellFormed = true → (∀ b, c ≠ .resetRelease b) →
      c ≠ .paperAbsent → c ≠ .paperPresent → c ≠ .leverOpen → c ≠ .leverClosed →
      exec c s = .next s

/-- RESET_RELEASE leaves every block at its reset value, with the sensors as read and STORE ABSENT
where no store is fitted. The reset values of the head latch and the key row latch (log entry 12),
no level held by the link (log entry 15), the order of the notices of different blocks (log entry
20) and PAPER OUT before LEVER UP (log entry 36) are the model's choices. (11 R208 (in part), 01 R10
(in part), 01 R22 (in part), 02 R37 (in part), 03 R68 (in part), 04 R96 (in part), 05 R115 (in
part), 06 R132 (in part), 07 R150 (in part), 08 R163 (in part), 09 R188 (in part), 10 R197 (in
part).) -/
def Obligations.ResetReleaseGivesResetValues : Prop :=
  ∀ (s : State) (fitted : Bool), s.pins.resetAsserted = true →
    ∃ t, exec (.resetRelease fitted) s = .next t
    ∧ t.pending = s.pending ∧ t.raised = [] ∧ t.pins = { s.pins with resetAsserted := false }
    ∧ t.store = { fitted := fitted, state := if fitted then .loading false else .idle
                  absent := !fitted, mem := s.store.mem, tornCount := s.store.tornCount }
    ∧ storeLines t = (if fitted then .reads (loadTransactions false s.store.mem) else .released)
    ∧ t.tor = torReset ∧ t.link = linkReset ∧ t.framer = framerReset ∧ t.dp = .text
    ∧ t.la = laReset ∧ t.pq = pqReset ∧ t.cg = cgReset ∧ t.ks = ksReset ∧ t.kr = krReset
    ∧ t.fu = fuReset
    ∧ t.pe = { peReset with
        hold := { noHold with paperOut := s.pins.paperAbsent, leverUp := s.pins.leverOpen }
        engine := if s.pins.paperAbsent || s.pins.leverOpen then .held else .idle }
    ∧ t.port = { portReset with
        out := (if s.pins.paperAbsent then [0x4C, 0x01, 0x04] else [])
          ++ (if s.pins.leverOpen then [0x4C, 0x01, if s.pins.paperAbsent then 0x0C else 0x08] else [])
          ++ (if fitted then [] else [0x61, 0x01, 0x00]) }

/-- A byte written at A0 = 0 is discarded, joins the command FIFO or completes a frame, as steps (1)
to (4) of R200 say. (11 R200 (in part), 11 R201 (in part).) -/
def Obligations.FrameParserTakesEachByte : Prop :=
  ∀ (s : State) (b : Byte), Awake s → s.port.power ≠ .dormant →
    (s.port.frames = [] ∨ 90 < s.port.out.length) →
    (s.port.parser = .lost → exec (.commandByteWrite b) s = .next s)
    ∧ (s.port.parser ≠ .lost → 80 ≤ s.port.commandCount →
        exec (.commandByteWrite b) s
          = .next { s with port := { s.port with cmdLost := true, parser := .lost } })
    ∧ (s.port.commandCount < 80 →
        (s.port.parser = .code →
          exec (.commandByteWrite b) s = .next { s with port := { s.port with parser := .length b } })
        ∧ (∀ c, s.port.parser = .length c →
            (63 < b.toNat → exec (.commandByteWrite b) s
              = .next { s with port := { s.port with cmdLost := true, parser := .lost } })
            ∧ (1 ≤ b.toNat → b.toNat ≤ 63 → exec (.commandByteWrite b) s
              = .next { s with port := { s.port with parser := .payload c [] b.toNat } })
            ∧ (b = 0 → 90 < s.port.out.length → exec (.commandByteWrite b) s
              = .next { s with port :=
                  { s.port with frames := s.port.frames ++ [⟨c, []⟩], parser := .code } })
            ∧ (b = 0 → s.port.frames = [] → s.port.out.length ≤ 90 → exec (.commandByteWrite b) s
              = .next (respond (runCommand ⟨c, []⟩ { s with port := { s.port with parser := .code } }))))
        ∧ (∀ c got due, s.port.parser = .payload c got due →
            (2 ≤ due → exec (.commandByteWrite b) s
              = .next { s with port := { s.port with parser := .payload c (got ++ [b]) (due - 1) } })
            ∧ (due = 1 → 90 < s.port.out.length → exec (.commandByteWrite b) s
              = .next { s with port :=
                  { s.port with frames := s.port.frames ++ [⟨c, got ++ [b]⟩], parser := .code } })
            ∧ (due = 1 → s.port.frames = [] → s.port.out.length ≤ 90 →
                exec (.commandByteWrite b) s
              = .next (respond
                  (runCommand ⟨c, got ++ [b]⟩ { s with port := { s.port with parser := .code } })))))

/-- PORT_CLEAR empties the command FIFO, STATUS_BYTE_READ drives the eight bits, OUTPUT_FIFO_READ
takes the oldest byte and may free a frame. (11 R198 (in part), 11 R199 (in part), 11 R200 (in
part), 11 R201 (in part).) -/
def Obligations.PortStrobesClearAndRead : Prop :=
  ((∀ s : State, Awake s → s.port.power ≠ .dormant →
      exec .portClear s
        = .next { s with port := { s.port with frames := [], parser := .code, cmdLost := false } })
    ∧ ∀ s : State, Awake s → ∃ b : Byte,
        exec .statusByteRead s = .next { s with
          pins := { s.pins with readData := b }, port := { s.port with noticeLost := false } }
        ∧ b.getLsbD 0 = !s.port.out.isEmpty
        ∧ b.getLsbD 1 = decide (s.port.commandCount < 80)
        ∧ b.getLsbD 2 = s.port.cmdLost
        ∧ b.getLsbD 3 = s.port.noticeLost
        ∧ b.getLsbD 4 = decide (s.store.state ≠ .idle)
        ∧ b.getLsbD 5 = decide (s.port.power = .dormant)
        ∧ b.getLsbD 6 = s.port.contentLost
        ∧ b.getLsbD 7 = !s.pe.hold.isEmpty)
  ∧ ∀ s : State, Awake s →
      (s.port.frames = [] → exec .outputFifoRead s = .next { s with
          pins := { s.pins with readData := s.port.out.headD 0 }
          port := { s.port with out := s.port.out.tail } }
        ∧ irq { s with port := { s.port with out := s.port.out.tail } }
            = decide (2 ≤ s.port.out.length))
      ∧ ∀ f, s.port.frames = [f] →
        (s.port.out.length = 91 → exec .outputFifoRead s
          = .next (respond (runCommand f { s with
              pins := { s.pins with readData := s.port.out.headD 0 }
              port := { s.port with frames := [], out := s.port.out.tail } })))
        ∧ (91 < s.port.out.length → exec .outputFifoRead s = .next { s with
              pins := { s.pins with readData := s.port.out.headD 0 }
              port := { s.port with out := s.port.out.tail } })

/-- A frame on a ready port answers UNKNOWN, BUSY while LOADING, or its own rule's response ahead of
every notice. That a command row stands for the writing of its whole frame is the model's (log entry
1). (11 R201 (in part), 11 R202 (in part), 03 R46 (in part), 04 R74 (in part), 04 R92 (in part), 04
R93 (in part), 09 R181 (in part), 09 R187 (in part).) -/
def Obligations.PortTestsComeBeforeTheCommand : Prop :=
  (∀ (i : Instr) (code : Byte) (p : List Byte) (s : State), PortReady s → i.wellFormed = true →
      frameOf i = some (code, p) →
      (listedCode code = false → exec i s = .next (s.answered [0x05, 0x00]))
      ∧ (listedCode code = true → code ≠ 0x01#8 → s.store.state.isLoading = true →
          exec i s = .next (s.answered [0x04, 0x00]))
      ∧ (listedCode code = true → code = 0x01#8 ∨ s.store.state.isLoading = false →
          ∃ t r after, runListed ⟨code, p⟩ s = (after, r)
            ∧ exec i s = .next t ∧ t = placeNotices (after.answered r.bytes)
            ∧ after.port.out = s.port.out
            ∧ ∃ notices, t.port.out = s.port.out ++ r.bytes ++ notices))
  ∧ (∀ (code : Byte) (p : List Byte) (s : State), PortReady s → listedCode code = false →
      p.length ≤ 63 → exec (.unknownCommand code p) s = .next (s.answered [0x05, 0x00]))
  ∧ ∀ (i : Instr) (s : State) (p : List Byte), CommandReady s → s.port.power = .run → p ≠ [] →
      p.length ≤ 63 →
      i ∈ [Instr.status p, .saveStore p, .dormant p, .endLine p, .printStop p, .printGo p,
           .linkOriginate p, .linkAnswer p, .linkDrop p, .sendBreak p, .commitForm p, .cancelForm p] →
      exec i s = .next (s.answered [0x03, 0x00])

/-- STATUS answers OK with the ten bytes of R201 in every store state, and changes nothing else. (11
R201 (in part), 11 R202 (in part).) -/
def Obligations.StatusReportsTheTenCounts : Prop :=
  ∀ s : State, PortReady s → exec (.status []) s = .next (s.answered
    [0x00, 0x0A,
     match s.link.state with
      | .down => 0 | .listen => 1 | .answering => 2 | .qualify => 3 | .online => 4 | .fade => 5,
     match s.pe.engine with
      | .dormant => 0 | .waking => 1 | .idle => 2 | .printing => 3 | .feeding => 4 | .held => 5,
     s.pe.hold.byte, byteOf s.pq.entries.length, byteOf s.framer.rxf.length,
     byteOf (s.framer.flow.length + s.framer.data.length), byteOf s.ks.kq.length,
     match s.fu.inst.map FormInst.phase with
      | none => 0 | some .closed => 0 | some .opened => 1 | some .pending => 2
      | some .reporting => 3,
     match s.fu.inst with | none => 0 | some i => byteOf i.number,
     match s.store.state with | .idle => 0 | .loading _ => 1 | .saving _ _ _ => 2])

/-- SAVE_STORE answers BUSY in the wake window, STATE while SAVING or with no store fitted, else OK
with the store SAVING. (11 R205 (in part), 11 R207 (in part).) -/
def Obligations.SaveStoreBeginsTheErase : Prop :=
  ∀ s : State, CommandReady s →
    (s.port.power = .waking → exec (.saveStore []) s = .next (s.answered [0x04, 0x00]))
    ∧ (s.port.power = .run → (s.store.state.isSaving = true ∨ s.store.fitted = false) →
        exec (.saveStore []) s = .next (s.answered [0x02, 0x00]))
    ∧ (s.port.power = .run → s.store.state = .idle → s.store.fitted = true →
        exec (.saveStore []) s
          = .next ({ s with store := { s.store with state := .saving .erase 0 (formImage s) } }.answered
              [0x00, 0x00])
        ∧ (formImage s).headD 0 = 0xA6#8
        ∧ (s.cg.std.length = 32 → s.cg.cond.length = 32 → s.tor.inRange = true →
            ((formImage s).drop 16).take 64 = encodeTor s.tor))

/-- SAVE_WRITE_DONE stores FFh at byte 0, the body page by page from the image, then A6h, as the
transaction on STCL and STDA said, and no other byte. That the device address with write is the byte
A0h (log entry 34) and the count of torn pages (log entry 10) are the model's. (11 R205 (in part),
11 R203 (in part).) -/
def Obligations.SaveWritesMarkThenPagesThenMark : Prop :=
  ∀ (s : State) (stage : SaveStage) (page first : Nat) (image : List Byte) (write : Nat → List Byte → List BusItem),
    Awake s → first = (if page = 0 then 1 else 32 * page) →
    (∀ a bs, write a bs = [.start, .send 0xA0, .send (byteOf (a / 256)), .send (byteOf (a % 256))]
      ++ bs.map BusItem.send ++ [.stop]) →
    s.store.state = .saving stage page image → page ≤ 202 → image.length = 6480 →
    Memory.wf s.store.mem = true → (∀ w, s.dp ≠ .storeWait w) →
    storeLines s = .writes
        (match stage with
          | .erase => write 0 [0xFF]
          | .body => write first ((image.drop first).take (min (32 * page + 32) 6480 - first))
          | .mark => write 0 [0xA6]) [.start, .send 0xA0]
    ∧ ∃ t, exec .saveWriteDone s = .next t
      ∧ t = { s with store := t.store } ∧ t.store.fitted = s.store.fitted
      ∧ t.store.tornCount = s.store.tornCount ∧ Memory.wf t.store.mem = true
      ∧ (stage = .erase → t.store.state = .saving .body 0 image ∧ t.store.absent = s.store.absent
          ∧ ∀ a, memRead t.store.mem a = if a = 0 then 0xFF#8 else memRead s.store.mem a)
      ∧ (stage = .body →
          t.store.state = (if page < 202 then .saving .body (page + 1) image else .saving .mark 0 image)
          ∧ t.store.absent = s.store.absent
          ∧ ∀ a, memRead t.store.mem a
              = if first ≤ a ∧ a < 32 * page + 32 ∧ a < 6480
                then image.getD a 0 else memRead s.store.mem a)
      ∧ (stage = .mark → t.store.state = .idle ∧ t.store.absent = false
          ∧ ∀ a, memRead t.store.mem a = if a = 0 then 0xA6#8 else memRead s.store.mem a)

/-- A save write that fails, unacknowledged or not polled in time, ends the save with STORE FAULT
and its stage. (11 R205 (in part), 11 R203 (in part).) -/
def Obligations.SaveFailureRaisesStoreFault : Prop :=
  ∀ (i : Instr) (s : State) (stage : SaveStage) (page : Nat) (image : List Byte),
    i = .savePollTimeout ∨ i = .saveWriteNoAcknowledge → Awake s →
    s.store.state = .saving stage page image → page ≤ 202 → s.port.out.length ≤ 125 →
    Memory.wf s.store.mem = true → (∀ w, s.dp ≠ .storeWait w) →
    ∃ t, exec i s = .next t
      ∧ t = { s with store := t.store, port := { s.port with out := s.port.out ++
          [0x62, 0x01, match stage with | .erase => 0 | .body => 1 | .mark => 2] } }
      ∧ t.store.state = .idle ∧ t.store.fitted = s.store.fitted
      ∧ t.store.absent = (s.store.absent || decide (stage ≠ .erase))
      ∧ (∀ a, stage ≠ .body ∨ a < pageStart page ∨ pageEnd page ≤ a →
          memRead t.store.mem a = memRead s.store.mem a)

/-- STORE_LOAD_END: the areas read on STCL and STDA, mark first, are installed, or no block changes
and store-absent is set, and it is reported. The model's choices (log entry 34): the device
addresses A0h and A1h, a read that a wrong mark ends has the mark as its last byte, and nothing
stands behind an unacknowledged byte. (11 R203 (in part), 11 R204 (in part), 11 R207 (in part), 10
R197 (in part), 08 R163 (in part), 02 R37 (in part), 09 R188 (in part).) -/
def Obligations.StoreLoadEndInstallsOrKeeps : Prop :=
  ∀ (s : State) (reload : Bool) (missed : Option Nat) (code : Byte) (areas : List (Nat × Nat))
      (read : Nat → Nat → List BusItem) (ts : List (List BusItem)),
    Awake s → s.store.state = .loading reload → s.port.out.length ≤ 125 → (∀ w, s.dp ≠ .storeWait w) →
    areas = (if reload then [(0, 16), (720, 1664), (2384, 4096)]
      else [(0, 16), (16, 64), (80, 640), (720, 1664), (2384, 4096)]) →
    code = (if ∃ k, missed = some k ∧ k < 4 then 1
      else if memRead s.store.mem 0 ≠ 0xA6#8 then 2
      else if ∃ k, missed = some k ∧ k < 4 * areas.length then 1 else 0) →
    (∀ a n, read a n =
        [.start, .send 0xA0, .send (byteOf (a / 256)), .send (byteOf (a % 256)), .start, .send 0xA1]
          ++ (List.range n).map (fun i =>
              BusItem.receive (memRead s.store.mem (a + i)) (decide (i + 1 < n)))
          ++ [.stop]) →
    ts = (if memRead s.store.mem 0 = 0xA6#8 then areas.map fun a => read a.1 a.2 else [read 0 1]) →
    storeLines s = .reads ts
    ∧ (missed = none → loadDriven reload missed s.store.mem = ts)
    ∧ (∀ k, missed = some k →
        (4 * ts.length ≤ k → loadDriven reload missed s.store.mem = ts)
        ∧ ∀ pre tr post, ts = pre ++ tr :: post → pre.length = k / 4 →
          loadDriven reload missed s.store.mem
            = pre ++ [tr.take (if k % 4 = 3 then 6 else k % 4 + 2)])
    ∧ ∃ t, exec (.storeLoadEnd missed) s = .next t
      ∧ t.store = { s.store with state := .idle, absent := decide (code ≠ 0) }
      ∧ (code ≠ 0 → t = { s with store := t.store, port := { s.port with out := s.port.out ++
            (if reload then [0x64, 0x01, code + 1] else [0x61, 0x01, code]) } })
      ∧ (code = 0 →
          t.cg = loadedCharGen s.store.mem
          ∧ t.fu = { s.fu with slots := loadedSlots s.store.mem s.fu }
          ∧ (∀ i n, s.fu.inst = some i → i.number = n + 1 → n < 8 →
              t.fu.slots.getD n none = s.fu.slots.getD n none)
          ∧ (reload = false →
              t.tor = decodeTor (memReadRange s.store.mem 16 64)
              ∧ t.kr = { s.kr with keymap := loadedKeymap (memReadRange s.store.mem 80 640) }
              ∧ t.port = { s.port with out := s.port.out ++ [0x60, 0x00] })
          ∧ (reload = true →
              t.tor = s.tor ∧ t.kr = s.kr ∧ t.la = s.la
              ∧ t.port = { s.port with
                  contentLost := false, out := s.port.out ++ [0x64, 0x01, 0x00] })
          ∧ t = { s with
              store := t.store, tor := t.tor, kr := t.kr, cg := t.cg, fu := t.fu, la := t.la, port := t.port })

/-- DORMANT answers STATE unless R206 holds, else every block goes to rest; a write or a key closure
then wakes the part. That the keys closed at the event, and those closed at dormant entry, are told
by KEY_WAKE_CLOSURE is the model's (log entry 33). (11 R206 (in part), 01 R22 (in part), 02 R37 (in
part), 03 R67 (in part), 06 R132 (in part), 07 R147 (in part), 09 R188 (in part), 11 R198 (in part),
11 R207 (in part), 07 R148 (in part), 07 R149 (in part).) -/
def Obligations.DormantEntryAndFirstWakeEvent : Prop :=
  (∀ s : State, CommandReady s →
      ((s.link.state ≠ .down ∨ s.pq.entries ≠ [] ∨ s.framer.rxf ≠ [] ∨ s.framer.flow ≠ []
          ∨ s.framer.data ≠ [] ∨ s.la.far.cells ≠ [] ∨ s.la.far.waiting ≠ [] ∨ s.la.ctl.cells ≠ []
          ∨ s.la.ctl.waiting ≠ [] ∨ s.la.key.cells ≠ [] ∨ s.la.key.waiting ≠ []
          ∨ s.fu.inst ≠ none ∨ s.pe.engine ≠ .idle ∨ s.store.state ≠ .idle) →
        exec (.dormant []) s = .next (s.answered [0x02, 0x00]))
      ∧ (s.link.state = .down → s.pq.entries = [] → s.framer.rxf = [] → s.framer.flow = [] →
          s.framer.data = [] → s.la.far.cells = [] → s.la.far.waiting = [] → s.la.ctl.cells = [] →
          s.la.ctl.waiting = [] → s.la.key.cells = [] → s.la.key.waiting = [] →
          s.fu.inst = none → s.pe.engine = .idle → s.store.state = .idle →
          ∃ t, exec (.dormant []) s = .next t
            ∧ t.pe.engine = .dormant ∧ t.pe.history = 0 ∧ t.pe.forced = true
            ∧ t.pe.hold = s.pe.hold ∧ t.pe.lastT = none ∧ t.pe.lastV = none
            ∧ t.cg = cgReset ∧ t.fu = { s.fu with slots := List.replicate 8 none, loadBuf := none }
            ∧ t.dp = .text ∧ t.la = laReset ∧ t.ks.keyLatch = 0xFF#8 ∧ t.ks.kq = []
            ∧ t.ks.downList = [] ∧ t.port = { s.port with
                power := .dormant, contentLost := true, out := s.port.out ++ [0x00, 0x00] }
            ∧ t.tor = s.tor ∧ t.kr = s.kr ∧ t.link = s.link ∧ t.store = s.store ∧ t.pq = s.pq
            ∧ t.pins = { s.pins with sense := none }))
  ∧ (∀ (s : State) (closed atEntry : BitVec 80) (lines before : BitVec 10), Awake s →
      s.port.power = .dormant →
      (∀ c, c < 10 → (lines.getLsbD c = true ↔ ∃ r, r < 8 ∧ closed.getLsbD (10 * r + c) = true)) →
      (s.pins.sense = some before ∨ s.pins.sense = none ∧
        ∀ c, c < 10 → (before.getLsbD c = true ↔ ∃ r, r < 8 ∧ atEntry.getLsbD (10 * r + c) = true)) →
      ((∀ c, c < 10 → lines.getLsbD c = true → before.getLsbD c = true) →
        exec (.keyWakeClosure closed atEntry) s
          = .next { s with pins := { s.pins with sense := some lines } })
      ∧ ∀ c, c < 10 → lines.getLsbD c = true → before.getLsbD c = false →
        exec (.keyWakeClosure closed atEntry) s = .next { s with
          pins := { s.pins with sense := some lines }
          port := { s.port with power := .waking }
          pe := { s.pe with
            engine := .waking, history := 0, forced := true, bus := .free, loadWait := false
            scanWait := none }
          ks := { s.ks with
            keys := s.ks.keys.map fun _ => ⟨.up, true, none⟩
            downList := [], rowPtr := 0, typematic := none, due := false, kq := [], kqOverrun := false
            echoBegun := false } })
  ∧ ∀ (i : Instr) (s : State), Awake s → s.port.power = .dormant →
      ((∃ b, i = .commandByteWrite b) ∨ i = .portClear) →
      exec i s = .next { s with
        port := { s.port with power := .waking }
        pe := { s.pe with
          engine := .waking, history := 0, forced := true, bus := .free, loadWait := false
          scanWait := none }
        ks := { s.ks with
          keys := s.ks.keys.map fun _ => ⟨.up, true, none⟩
          downList := [], rowPtr := 0, typematic := none, due := false, kq := [], kqOverrun := false
          echoBegun := false } }

/-- WAKING_END leaves RUN, reads the sensors, lets the engine decide, and begins the reload or
raises AWAKE outcome 1. The model's choices: AWAKE stands behind the HOLD CHANGE notices (log entry
20; R202 leaves the order of the notices of different blocks open), PAPER OUT joins the set before
LEVER UP (log entry 36), and a scan already granted the bus keeps it as the reload begins, while a
waiting one is withdrawn (log entry 41). Left out: entries waiting in the print queue and causes
already in the set, such as a STOPPED added in WAKING. (11 R207 (in part), 03 R67 (in part), 03 R39
(in part).) -/
def Obligations.WakingEndDecidesAndReloads : Prop :=
  ∀ s : State, Awake s → s.port.power = .waking → s.pe.engine = .waking → s.pq.entries = [] →
    s.pe.directFeed = none → s.pe.hold = noHold → s.port.out.length ≤ 90 →
    ∃ t, exec .wakingEnd s = .next t
      ∧ t = { s with port := t.port, pe := t.pe, store := t.store }
      ∧ t.pe = { s.pe with
          hold := { noHold with paperOut := s.pins.paperAbsent, leverUp := s.pins.leverOpen }
          engine := if s.pins.paperAbsent || s.pins.leverOpen then .held else .idle
          history := 0, forced := true
          scanWait := if s.store.fitted && !s.store.absent then none else s.pe.scanWait }
      ∧ t.store = { s.store with
          state := if s.store.fitted && !s.store.absent then .loading true else s.store.state }
      ∧ t.port = { s.port with
          power := .run
          out := s.port.out
            ++ (if s.pins.paperAbsent then [0x4C, 0x01, 0x04] else [])
            ++ (if s.pins.leverOpen then
                  [0x4C, 0x01, if s.pins.paperAbsent then 0x0C else 0x08] else [])
            ++ (if s.store.fitted && !s.store.absent then [] else [0x64, 0x01, 0x01]) }

/-- A numeric value is clamped, field 11 rounded down to a multiple of 5; an enumerated value
outside its range is refused. (10 R189 (in part), 10 R190 (in part).) -/
def Obligations.WriteIsBroughtIntoRange : Prop :=
  (∀ (n : Nat) (lo hi x : Int), optClass n = some (.numeric lo hi) → n ≠ 11 →
    bringIntoRange n x = some (if x < lo then lo else if hi < x then hi else x) ∧ lo ≤ hi)
  ∧ (∀ x : Int, ∃ y, bringIntoRange 11 x = some y ∧ y % 5 = 0 ∧ 0 ≤ y ∧ y ≤ 420
      ∧ (0 ≤ x → x ≤ 420 → y ≤ x ∧ x < y + 5))
  ∧ (∀ (n : Nat) (lo hi x : Int), optClass n = some (.enumerated lo hi) →
      bringIntoRange n x = if lo ≤ x ∧ x ≤ hi then some x else none)
  ∧ bringIntoRange 16 9999999 = some 60 ∧ bringIntoRange 21 (-3) = some 0
  ∧ bringIntoRange 7 300 = some 255 ∧ bringIntoRange 11 213 = some 210
  ∧ bringIntoRange 11 503 = some 420 ∧ bringIntoRange 11 (-7) = some 0

/-- SET_OPTION of a number stores the value brought into range, does at once what Table 10-2 says
and answers the value, or answers RANGE. The model's choices: an examination at once on a write of
1, 32, 33 or 36 (log entry 29); no carrier event while no level is held (log entry 15); the count
that field 21 is compared with runs while field 21 is 0 too (log entry 17); LINK STATE ahead of HOLD
CHANGE (log entry 20). Shown for a character in flight, at most one flow code waiting, and an engine
not IDLE. (10 R191 (in part), 10 R190 (in part), 10 Table 10-2, 01 R11 (in part), 01 R17 (in part),
04 R73 (in part), 04 R85 (in part), 05 R107 (in part), 05 R114 (in part), 08 R153 (in part), 09 R180
(in part).) -/
def Obligations.SetOptionStoresANumber : Prop :=
  ∀ (s : State) (n : Nat) (hi lo : Byte), StoreIdle s → s.tor.inRange = true → 1 ≤ n → n ≤ 37 →
    (n = 31 → s.fu.inst.map FormInst.phase ≠ some .pending
      ∧ s.fu.inst.map FormInst.phase ≠ some .reporting) →
    (bringIntoRange n (signed16 hi lo) = none →
      exec (.setOption [byteOf n, hi, lo]) s = .next (s.answered [0x03, 0x00]))
    ∧ ∀ (y old : Int) (u : State) (r : List Byte), bringIntoRange n (signed16 hi lo) = some y →
      old = s.tor.nums.getD (n - 1) 0 →
      u = { s with tor := { s.tor with nums := s.tor.nums.set (n - 1) y } } →
      r = [0x00, 0x03, byteOf n] ++ bytes16 y → ∀ answers : State → Prop,
      (∀ v, answers v ↔ exec (.setOption [byteOf n, hi, lo]) s = .next (v.answered r)) →
      exec (.setOption [byteOf n, hi, lo]) s = .next (placeNotices ((storeNumber n y s).answered r))
      ∧ (∃ t notices, exec (.setOption [byteOf n, hi, lo]) s = .next t ∧ t.tor = u.tor
          ∧ t.port.out = s.port.out ++ r ++ notices)
      ∧ (n ∈ [2, 3, 4, 5, 7, 8, 14, 15, 16, 17, 19, 20, 22, 23, 24, 25, 26, 27, 28, 29, 30, 34, 35, 37] →
          answers u)
      ∧ (n ∈ [1, 32, 33, 36] →
          exec (.setOption [byteOf n, hi, lo]) s = .next (placeNotices ((examine u).answered r))
          ∧ (s.ks.kq = [] → answers u))
      ∧ (n = 6 → s.framer.inFlight ≠ none → s.framer.flow.length ≤ 1 → ∀ pauses resumes : Bool,
          pauses = decide (old = 0 ∧ y = 1 ∧ s.framer.paused = false ∧ 48 ≤ s.framer.rxf.length
            ∧ (s.link.state = .online ∨ s.link.state = .fade)) →
          resumes = decide (old = 1 ∧ y = 0 ∧ s.framer.paused = true) →
          answers { u with framer := { s.framer with
            paused := (s.framer.paused || pauses) && !resumes
            flow := s.framer.flow
              ++ (if pauses then [byteOf (s.tor.nums.getD 6 0).toNat] else [])
              ++ (if resumes then [byteOf (s.tor.nums.getD 7 0).toNat] else []) } })
      ∧ (n = 9 → s.framer.inFlight ≠ none → answers { u with framer := { s.framer with
          farPaused := s.framer.farPaused && !decide (old = 1 ∧ y = 0) } })
      ∧ (∀ g : Int, g = (if u.tor.nums.getD 9 0 = 1 then floor5 (clampInt 0 420 (u.tor.nums.getD 10 0))
            else s.link.gain) →
          (n = 10 ∨ (n = 11 ∧ s.tor.nums.getD 9 0 = 1) →
            (s.link.state ≠ .online ∨ s.tor.nums.getD 11 0 = 1 →
              answers { u with link := { s.link with gain := g, gainPending := false } })
            ∧ (s.link.state = .online → s.tor.nums.getD 11 0 ≠ 1 →
              answers { u with link := { s.link with gainPending := true } }))
          ∧ (n = 11 → s.tor.nums.getD 9 0 ≠ 1 → answers u)
          ∧ (n = 12 → (y = 1 ∧ s.link.gainPending = true →
              answers { u with link := { s.link with gain := g, gainPending := false } })
            ∧ (y ≠ 1 ∨ s.link.gainPending = false → answers u)))
      ∧ (n = 13 →
          ((s.link.state = .down ∨ ∀ lv, s.link.level = some lv → (lv < old ↔ lv < y)) → answers u)
          ∧ ∀ lv, s.link.level = some lv →
            (lv < old → y ≤ lv → s.link.state = .listen ∨ s.link.state = .answering →
              s.pe.engine ≠ .idle → s.pe.hold.linkTraining = false →
              exec (.setOption [byteOf n, hi, lo]) s = .next ({ u with
                link := { s.link with
                  state := .qualify, qualify := some (s.tor.nums.getD 13 0)
                  gain := if s.tor.nums.getD 9 0 = 0 then floor5 (clampInt 0 420 (-120 - lv))
                    else s.link.gain }
                pe := { s.pe with hold := { s.pe.hold with linkTraining := true } } }.answered
                (r ++ [0x44, 0x02, 0x03, 0x02,
                  0x4C, 0x01, { s.pe.hold with linkTraining := true }.byte])))
            ∧ (old ≤ lv → lv < y → s.link.state = .online → s.link.gainPending = false →
              exec (.setOption [byteOf n, hi, lo]) s = .next ({ u with
                link := { s.link with
                  state := .fade, holdover := some (s.tor.nums.getD 14 0)
                  spaceRun := none, breakPending := false }
                framer := { s.framer with rx := .suspended } }.answered
                (r ++ [0x44, 0x02, 0x05, 0x02]))))
      ∧ (n = 18 → ∀ held : OpenLine → OpenLine,
          (∀ l, l.font ≠ none → held l = l) →
          (∀ l, l.font = none → held l = { l with column := min l.column (if y = 0 then 32 else 48) }) →
          answers { u with la := { s.la with
            far := held s.la.far, ctl := held s.la.ctl, key := held s.la.key } })
      ∧ (n = 21 →
          (s.la.far.cells = [] ∨ y = 0 ∨ s.la.farHoldMs ≤ 1000 * y → answers u)
          ∧ (s.la.far.cells ≠ [] → y ≠ 0 → 1000 * y < s.la.farHoldMs → s.pe.engine ≠ .idle →
            s.pq.entries.length ≤ 39 → s.pq.pendingBlock = none → s.pq.waitList = [] →
            answers { u with
              la := { s.la with far := ⟨[], 0, false, false, none, s.la.far.waiting⟩, farHoldMs := 0 }
              pq := { s.pq with entries := s.pq.entries ++
                [⟨.far, .text (s.la.far.font.getD (if s.tor.nums.getD 17 0 = 0 then .std else .cond))
                    (commitCells 0 s.la.far.cells) false (s.tor.nums.getD 18 0).toNat, false, false⟩] } }))
      ∧ (n = 31 →
          (s.fu.inst = none → answers u)
          ∧ ∀ i, s.fu.inst = some i → i.phase = .opened → fieldsApart s.formTemplate.fields = true →
            ∃ j : FormInst, answers { u with fu := { s.fu with inst := some j } }
              ∧ j = { i with vals := j.vals, total := j.total, tax := j.tax, grand := j.grand }
              ∧ j.total = totalOf (extValues s.formTemplate j.vals)
              ∧ j.tax = taxOf j.total y ∧ j.grand = grandOf j.total j.tax
              ∧ ∀ g, s.formTemplate.field? g.id = some g → g.kind.entered = true →
                  valueOf j.vals g.id = valueOf i.vals g.id
                  ∧ writerOf j.vals g.id = writerOf i.vals g.id)

/-- SET_OPTION of fields 38 and 39, and its answers BUSY, RANGE and STATE, each with nothing else
changed. (10 R191 (in part), 10 R193 (in part), 10 R194 (in part).) -/
def Obligations.SetOptionTextSetAndRefusals : Prop :=
  (∀ (s : State) (v : List Byte), StoreIdle s → v.length ≤ 62 →
    ((∀ b ∈ v, 0x20 ≤ b.toNat ∧ b.toNat ≤ 0x7E) →
      exec (.setOption (38 :: v)) s = .next ({ s with tor := { s.tor with answerback := v.take 20 } }.answered
        ([0x00, byteOf (1 + min 20 v.length), 38] ++ v.take 20)))
    ∧ ((∃ b ∈ v, b.toNat < 0x20 ∨ 0x7E < b.toNat) →
      exec (.setOption (38 :: v)) s = .next (s.answered [0x03, 0x00])))
  ∧ (∀ (s : State) (b0 b1 b2 b3 b4 : Byte), StoreIdle s →
      (b4.toNat < 64 → ∃ w : BitVec 40,
        exec (.setOption [39, b0, b1, b2, b3, b4]) s
          = .next ({ s with tor := { s.tor with farSet := w } }.answered
              [0x00, 0x06, 39, b0, b1, b2, b3, b4])
        ∧ ∀ n, 1 ≤ n → n ≤ 40 →
            w.getLsbD (n - 1) = (([b0, b1, b2, b3, b4].getD ((n - 1) / 8) 0).getLsbD ((n - 1) % 8)))
      ∧ (64 ≤ b4.toNat →
        exec (.setOption [39, b0, b1, b2, b3, b4]) s = .next (s.answered [0x03, 0x00])))
  ∧ (∀ (s : State) (p : List Byte), CommandReady s → s.store.state.isSaving = true → p.length ≤ 63 →
      exec (.setOption p) s = .next (s.answered [0x04, 0x00]))
  ∧ (∀ (s : State) (id : Byte) (v : List Byte), StoreIdle s → v.length ≤ 62 →
      (id.toNat = 0 ∨ 39 < id.toNat ∨ (id.toNat ≤ 37 ∧ v.length ≠ 2) ∨ (id.toNat = 39 ∧ v.length ≠ 5)) →
      exec (.setOption (id :: v)) s = .next (s.answered [0x03, 0x00]))
  ∧ (∀ (s : State) (hi lo : Byte) (i : FormInst), StoreIdle s → s.fu.inst = some i →
      i.phase = .pending ∨ i.phase = .reporting →
      exec (.setOption [31, hi, lo]) s = .next (s.answered [0x02, 0x00]))

/-- GET_OPTION answers BUSY while LOADING, RANGE for a bad payload, else the field's value as it
stands, in any other store state. (R192.) -/
def Obligations.GetOptionReadsTheRecord : Prop :=
  ∀ (s : State) (p : List Byte), PortReady s → p.length ≤ 63 →
    (s.store.state.isLoading = true → exec (.getOption p) s = .next (s.answered [0x04, 0x00]))
    ∧ (s.store.state.isLoading = false →
      ((p.length ≠ 1 ∨ ∃ id, p = [id] ∧ (id.toNat = 0 ∨ 39 < id.toNat)) →
        exec (.getOption p) s = .next (s.answered [0x03, 0x00]))
      ∧ (∀ id, p = [id] → 1 ≤ id.toNat → id.toNat ≤ 37 →
          ∃ hi lo, exec (.getOption p) s = .next (s.answered [0x00, 0x03, id, hi, lo])
            ∧ (s.tor.inRange = true → signed16 hi lo = s.tor.nums.getD (id.toNat - 1) 0))
      ∧ (p = [38] → exec (.getOption p) s = .next (s.answered
          ([0x00, byteOf (1 + s.tor.answerback.length), 38] ++ s.tor.answerback))
          ∧ (s.tor.inRange = true → s.tor.answerback.length ≤ 20))
      ∧ (p = [39] → ∃ b0 b1 b2 b3 b4,
          exec (.getOption p) s = .next (s.answered [0x00, 0x06, 39, b0, b1, b2, b3, b4])
          ∧ ∀ n, 1 ≤ n → n ≤ 40 → (([b0, b1, b2, b3, b4] : List Byte).getD ((n - 1) / 8) 0).getLsbD ((n - 1) % 8)
              = s.tor.farSet.getLsbD (n - 1)))

/-- An O or K directive hands its write over, or holds it in STORE WAIT until the store is IDLE:
OPTION CHANGED, or FAR WRITE REFUSED with its reason. The model's choices: STORE FAULT, STORE
LOADED, STORE ABSENT and AWAKE stand ahead of the notice of the write handed over (log entry 20), an
examination at once on a write of 1, 32, 33 or 36 (log entry 29), a write of field 31 is taken with
the form CLOSED (log entry 38), and a store event out of place changes nothing (log entry 2). (10
R195 (in part), 10 R194 (in part), 06 R125 (in part), 06 R120 (in part), 10 Table 10-2 (in part).)
-/
def Obligations.FarOptionWriteIsTakenOrRefused : Prop :=
  (∀ (s u : State) (d : Directive) (bs v : List Byte) (b : Byte) (rest : List RxEntry) (n : Nat),
    Awake s → s.port.out.length ≤ 90 → s.framer.paused = false →
    s.dp = .args d bs → s.framer.rxf = ⟨b, .none⟩ :: rest →
    ((d = .o ∧ b = 0x3B ∧ v.length ≤ 35 ∧ (n = 38 ∨ v.any isDigit = true)
        ∧ ∃ d1 d2 : Byte, bs = [d1, d2] ++ v ∧ isDigit d1 = true ∧ isDigit d2 = true
          ∧ n = 10 * digitVal d1 + digitVal d2 ∧ 1 ≤ n ∧ n ≤ 39)
      ∨ (d = .k ∧ bs = [] ∧ (b = 0x30 ∨ b = 0x31) ∧ n = 33 ∧ v = [b])) →
    u = { s with
      dp := .text
      framer := { s.framer with
        rxf := rest, overrun := s.framer.overrun && decide (48 ≤ rest.length) } } →
    (s.store.state ≠ .idle → exec .directiveByteTake s = .next { u with dp := .storeWait ⟨n, v⟩ })
    ∧ (s.store.state = .idle → ∃ t, exec .directiveByteTake s = .next t
      ∧ t.dp = .text ∧ t.framer.rxf = rest ∧ FarWriteTaken n v u t
      ∧ ∀ y, n ≠ 38 → n ≠ 39 → s.tor.farSet.getLsbD (n - 1) = true →
          (n = 31 → ∀ i, s.fu.inst = some i → i.phase = .opened) →
          bringIntoRange n (signedDigits v) = some y →
          t = placeNotices (raise (.optionChanged n (bytes16 y)) (storeNumber n y u))))
  ∧ ∀ (s : State) (i : Instr) (n : Nat) (v : List Byte), Awake s → s.port.out.length ≤ 90 →
    s.dp = .storeWait ⟨n, v⟩ → 1 ≤ n → n ≤ 39 →
    ((∃ page image, s.store.state = .saving .mark page image ∧ page ≤ 202 ∧ i = .saveWriteDone)
      ∨ (∃ stage page image, s.store.state = .saving stage page image ∧ page ≤ 202
          ∧ (i = .savePollTimeout ∨ i = .saveWriteNoAcknowledge))
      ∨ (s.store.state.isLoading = true ∧ ∃ missed, i = .storeLoadEnd missed)) →
    ∃ m t, exec i { s with dp := .text } = .next m ∧ exec i s = .next t
      ∧ m.store.state = .idle ∧ t.store = m.store ∧ t.dp = .text ∧ FarWriteTaken n v m t

/-- The TOR image that a save writes reads back as the record, for every record within its ranges.
(11 Table 11-7, 10 R197 (in part), 10 R193 (in part).) -/
def Obligations.OptionRecordImageRoundTrip : Prop :=
  ∀ t : OptionRecord, t.inRange = true → (encodeTor t).length = 64 ∧ decodeTor (encodeTor t) = t

/-- PRINT_TEXT gives its bytes to the CTL line until one is refused, and answers OK or FULL with the
count; how that line takes each code. That 0Ch into an empty line keeps the attribute state is the
model's choice (log entry 16). Appends are shown in an engine that is not IDLE. (01 R18 (in part),
01 R11 (in part), 01 R12 (in part), 01 R13 (in part), 01 R14 (in part).) -/
def Obligations.PrintTextOffersEachByte : Prop :=
  (∀ (s : State) (p : List Byte), CommandReady s → p.length ≤ 63 → ∃ n u, n ≤ p.length
    ∧ (p.take n).foldlM (fun u b => match offerCode .ctl b .none u with
        | .taken u1 => some u1
        | .refused _ => none) s = some u
    ∧ (n < p.length → ∃ u1, offerCode .ctl (p.getD n 0) .none u = .refused u1)
    ∧ exec (.printText p) s = .next (placeNotices
        (u.answered [if n = p.length then 0x00 else 0x01, 0x01, byteOf n])))
  ∧ (∀ (s : State) (p : List Byte), CommandReady s → s.la.ctl = emptyLine → p ≠ [] →
      p.length ≤ (if s.tor.nums.getD 17 0 = 0 then 32 else 48) →
      (∀ b ∈ p, 0x20 ≤ b.toNat ∧ b.toNat ≠ 0x7F) →
      exec (.printText p) s = .next ({ s with la := { s.la with ctl := { emptyLine with
          cells := p.mapIdx fun i b => ⟨i, ⟨b, false, false, false⟩⟩
          column := p.length
          font := some (if s.tor.nums.getD 17 0 = 0 then .std else .cond) } } }.answered
        [0x00, 0x01, byteOf p.length]))
  ∧ ∀ (s : State) (l : OpenLine) (now : Font) (w need : Nat) (put : OpenLine → State) (line : Entry)
      (append : List Entry → OpenLine → State),
    s.la.ctl = l → l.waiting = [] → now = (if s.tor.nums.getD 17 0 = 0 then .std else .cond) →
    w = (match l.font.getD now with | .std => 32 | .cond => 48) → need = (if l.double then 2 else 1) →
    (∀ m, put m = { s with la := { s.la with ctl := m } }) →
    (∀ es m, append es m = { s with
      la := { s.la with ctl := m }, pq := { s.pq with entries := s.pq.entries ++ es } }) →
    line = ⟨.ctl, .text (l.font.getD now) (commitCells 0 l.cells) false
      (s.tor.nums.getD 18 0).toNat, false, false⟩ →
    (∀ b : Byte, 0x20 ≤ b.toNat → b.toNat ≠ 0x7F →
      (l.column + need ≤ w → ∃ m : OpenLine, offerCode .ctl b .none s = .taken (put m)
        ∧ m = { l with cells := m.cells, column := l.column + need, font := some (l.font.getD now) }
        ∧ (∀ p, p ∈ m.cells ↔ p = ⟨l.column, ⟨b, l.underline, l.double, false⟩⟩
            ∨ (p ∈ l.cells ∧ (l.column + need ≤ p.col
                ∨ p.col + (if p.cell.double then 2 else 1) ≤ l.column)))
        ∧ (l.cells.Pairwise (fun p q => p.col < q.col) → m.cells.Pairwise (fun p q => p.col < q.col)))
      ∧ (w < l.column + need →
        (s.tor.nums.getD 19 0 ≠ 1 → offerCode .ctl b .none s = .taken s)
        ∧ (s.tor.nums.getD 19 0 = 1 →
          (l.cells = [] → offerCode .ctl b .none s = .taken (put { l with
              cells := [⟨0, ⟨b, l.underline, l.double, false⟩⟩], column := need
              font := some (l.font.getD now) }))
          ∧ (l.cells ≠ [] →
            (39 < s.pq.entries.length ∨ s.pq.pendingBlock ≠ none ∨ s.pq.waitList ≠ [] →
              offerCode .ctl b .none s = .refused s)
            ∧ (s.pq.entries.length ≤ 39 → s.pq.pendingBlock = none → s.pq.waitList = [] →
              s.pe.engine ≠ .idle → offerCode .ctl b .none s = .taken (append [line]
                ⟨[⟨0, ⟨b, false, false, false⟩⟩], 1, false, false, some now, []⟩))))))
    ∧ (∀ places, places = (if l.cells = [] then 1 else 2) →
      (39 < s.pq.entries.length ∨ s.pq.pendingBlock ≠ none ∨ s.pq.waitList ≠ [] →
        offerCode .ctl 0x0A .none s = .refused s)
      ∧ (40 < s.pq.entries.length + places ∨ s.pq.pendingBlock ≠ none ∨ s.pq.waitList ≠ [] →
        offerCode .ctl 0x0C .none s = .refused s)
      ∧ (s.pq.pendingBlock = none → s.pq.waitList = [] → s.pe.engine ≠ .idle →
        (s.pq.entries.length ≤ 39 →
          offerCode .ctl 0x0A .none s = .taken (append [line] emptyLine))
        ∧ (s.pq.entries.length + places ≤ 40 → offerCode .ctl 0x0C .none s = .taken
          (if l.cells = [] then append [feedEntry .ctl 96] { l with column := 0 }
            else append [line, feedEntry .ctl 96] emptyLine))))
    ∧ offerCode .ctl 0x0D .none s = .taken (put { l with column := 0 })
    ∧ offerCode .ctl 0x09 .none s = .taken (put { l with column := min (8 * (l.column / 8 + 1)) w })
    ∧ offerCode .ctl 0x08 .none s = .taken (put { l with column := l.column - 1 })
    ∧ offerCode .ctl 0x0E .none s = .taken (put { l with double := true })
    ∧ offerCode .ctl 0x0F .none s = .taken (put { l with double := false })
    ∧ offerCode .ctl 0x16 .none s = .taken (put { l with underline := true })
    ∧ offerCode .ctl 0x17 .none s = .taken (put { l with underline := false })
    ∧ (∀ b : Byte, (b.toNat < 0x20 ∨ b.toNat = 0x7F) →
      b ∉ ([0x0A, 0x0C, 0x0D, 0x09, 0x08, 0x0E, 0x0F, 0x16, 0x17] : List Byte) →
      offerCode .ctl b .none s = .taken s)
    ∧ (s.la.far.waiting = [] → offerCode .far 0x07 .none s
        = .taken { s with raised := s.raised ++ [.bell], la := { s.la with farHoldMs := 0 } })

/-- END_LINE commits the CTL line, empty or not, answering OK; where the append cannot be made it
answers FULL and changes nothing. (R19.) -/
def Obligations.EndLineCommitsTheCtlLine : Prop :=
  ∀ s : State, CommandReady s →
    (s.pq.entries.length ≤ 39 → s.pq.pendingBlock = none → s.pq.waitList = [] →
      ∃ t notices, exec (.endLine []) s = .next t
        ∧ t.pq.entries = s.pq.entries ++
            [⟨.ctl, .text (s.la.ctl.font.getD (if s.tor.nums.getD 17 0 = 0 then .std else .cond))
                (commitCells 0 s.la.ctl.cells) false (s.tor.nums.getD 18 0).toNat, false, false⟩]
        ∧ t.la = { s.la with ctl := ⟨[], 0, false, false, none, s.la.ctl.waiting⟩ }
        ∧ t.port.out = s.port.out ++ [0x00, 0x00] ++ notices
        ∧ (s.pe.engine ≠ .idle → notices = []
            ∧ t = { s with la := t.la, port := t.port, pq := { s.pq with entries := t.pq.entries } }))
    ∧ (39 < s.pq.entries.length ∨ s.pq.pendingBlock ≠ none ∨ s.pq.waitList ≠ [] →
      exec (.endLine []) s = .next (s.answered [0x01, 0x00]))

/-- FEED appends a CTL FEED entry of n rows and answers OK, FULL where R3 allows no append, RANGE
for 0 or a wrong length. That the row which FEED begins in IDLE reads VSENSE as it stands is the
model's choice (log entry 7). (03 R64 (in part), 01 R3 (in part), 03 R39 (in part), 03 R48 (in
part), 03 R63 (in part).) -/
def Obligations.FeedAppendsOneFeedEntry : Prop :=
  ∀ (s : State) (p : List Byte), CommandReady s → p.length ≤ 63 →
    ((p.length ≠ 1 ∨ p = [0]) → exec (.feed p) s = .next (s.answered [0x03, 0x00]))
    ∧ ∀ n : Byte, p = [n] → n ≠ 0 →
      (39 < s.pq.entries.length ∨ s.pq.pendingBlock ≠ none ∨ s.pq.waitList ≠ [] →
        exec (.feed p) s = .next (s.answered [0x01, 0x00]))
      ∧ (s.pq.entries.length ≤ 39 → s.pq.pendingBlock = none → s.pq.waitList = [] →
        (s.pe.engine ≠ .idle → exec (.feed p) s = .next ({ s with pq := { s.pq with
            entries := s.pq.entries ++ [feedEntry .ctl n.toNat] } }.answered [0x00, 0x00]))
        ∧ (s.pe.engine = .idle → ∃ t notices, exec (.feed p) s = .next t
            ∧ t.pq.entries = s.pq.entries ++ [feedEntry .ctl n.toNat]
            ∧ t.port.out = s.port.out ++ [0x00, 0x00] ++ notices
            ∧ (s.pq.entries = [] → s.pe.hold = noHold → s.pe.directFeed = none → 50 ≤ s.pins.vsense →
                notices = [] ∧ t.pq.inPrint = true
                ∧ t.pe = { s.pe with
                    engine := .feeding, lastV := some s.pins.vsense, row := .stepFeed })))

/-- PURGE removes the entries of the named sources that are not in print, cuts a matching one in
print, and answers the count. (01 R8 (in part), 01 R9 (in part).) -/
def Obligations.PurgeRemovesTheNamedSources : Prop :=
  ∀ (s : State) (p : List Byte), CommandReady s → p.length ≤ 63 →
    ((p.length ≠ 1 ∨ ∃ b, p = [b] ∧ 0x0F < b.toNat) →
      exec (.purge p) s = .next (s.answered [0x03, 0x00]))
    ∧ ∀ (b : Byte) (named : Entry → Bool), p = [b] → b.toNat ≤ 0x0F →
      s.pq.pendingBlock = none → s.pq.waitList = [] →
      (∀ e, named e = match e.source with
        | .far => b.getLsbD 0 | .ctl => b.getLsbD 1 | .key => b.getLsbD 2 | .form => b.getLsbD 3) →
      (s.pq.inPrint = false → exec (.purge p) s = .next ({ s with pq := { s.pq with
          entries := s.pq.entries.filter fun e => !named e } }.answered
          [0x00, 0x01, byteOf (s.pq.entries.countP named)]))
      ∧ ∀ h rest, s.pq.inPrint = true → s.pq.entries = h :: rest →
        (named h = false → exec (.purge p) s = .next ({ s with pq := { s.pq with
          entries := h :: rest.filter fun e => !named e } }.answered
          [0x00, 0x01, byteOf (rest.countP named)]))
        ∧ (named h = true → s.pe.row ≠ .idle → s.pe.directFeed = none →
          exec (.purge p) s = .next ({ s with pq := { s.pq with
          entries := { h with cutMark := true } :: rest.filter fun e => !named e } }.answered
          [0x00, 0x01, byteOf (rest.countP named + if h.cutMark then 0 else 1)]))
        ∧ (named h = true → s.pe.row = .idle → s.pe.engine = .held → s.pe.paperPending = false →
          exec (.purge p) s = .next ({ s with
            pe := { s.pe with entryRow := 0 }
            pq := { s.pq with entries := rest.filter (fun e => !named e), inPrint := false } }.answered
          [0x00, 0x01, byteOf (rest.countP named + 1)]))

/-- PRINT_STOP adds STOPPED and PRINT_GO removes it, with OK and HOLD CHANGE; rows in progress go
on, and a HELD engine whose set empties decides. The model's choices: a row that PRINT GO opens
reads VSENSE as it stands (log entry 7), and a measurement is due while no temperature has been
measured (log entry 28). Left out: a printed row with no measurement due. (03 R46 (in part), 03 R39
(in part), 03 R40 (in part), 03 R42 (in part), 03 R47 (in part), 03 R48 (in part), 03 R58 (in part),
03 R59 (in part).) -/
def Obligations.PrintStopAndGoMoveStopped : Prop :=
  (∀ (s : State) (p : List Byte), CommandReady s → p ≠ [] → p.length ≤ 63 →
    exec (.printStop p) s = .next (s.answered [0x03, 0x00])
    ∧ exec (.printGo p) s = .next (s.answered [0x03, 0x00]))
  ∧ ∀ s : State, CommandReady s →
    (s.pe.hold.stopped = true → exec (.printStop []) s = .next (s.answered [0x00, 0x00]))
    ∧ (s.pe.hold.stopped = false → exec (.printGo []) s = .next (s.answered [0x00, 0x00]))
    ∧ (s.pe.hold.stopped = false →
        (s.pe.engine ≠ .idle → exec (.printStop []) s
          = .next ({ s with pe := { s.pe with hold := { s.pe.hold with stopped := true } } }.answered
              [0x00, 0x00, 0x4C, 0x01, { s.pe.hold with stopped := true }.byte]))
        ∧ (s.pe.engine = .idle → s.pe.directFeed = none → exec (.printStop []) s
          = .next ({ s with pe := { s.pe with
                hold := { s.pe.hold with stopped := true }, engine := .held, history := 0
                forced := true } }.answered
              [0x00, 0x00, 0x4C, 0x01, { s.pe.hold with stopped := true }.byte])))
    ∧ (s.pe.hold.stopped = true →
        (s.pe.engine ≠ .held ∨ { s.pe.hold with stopped := false } ≠ noHold →
          exec (.printGo []) s
            = .next ({ s with pe := { s.pe with hold := { s.pe.hold with stopped := false } } }.answered
                [0x00, 0x00, 0x4C, 0x01, { s.pe.hold with stopped := false }.byte]))
        ∧ (s.pe.engine = .held → { s.pe.hold with stopped := false } = noHold → s.pq.entries = [] →
            s.pe.directFeed = none → exec (.printGo []) s
          = .next ({ s with pe := { s.pe with
                hold := noHold, engine := .idle, history := 0, forced := true } }.answered
              [0x00, 0x00, 0x4C, 0x01, 0x00]))
        ∧ (∃ t notices, exec (.printGo []) s = .next t ∧ t.pe.hold.stopped = false
            ∧ t.pq.entries = s.pq.entries ∧ t.port.out = s.port.out
              ++ [0x00, 0x00, 0x4C, 0x01, { s.pe.hold with stopped := false }.byte] ++ notices)
        ∧ (s.pe.engine = .held → { s.pe.hold with stopped := false } = noHold →
            s.pe.directFeed = none → ∀ e rest, s.pq.entries = e :: rest →
          (s.pins.vsense < 50 → exec (.printGo []) s
            = .next ({ s with pe := { s.pe with hold := { noHold with lowSupply := true } } }.answered
                [0x00, 0x00, 0x4C, 0x01, 0x00, 0x4C, 0x01, 0x02]))
          ∧ (50 ≤ s.pins.vsense → ∀ began : PrintEngine → State,
            (∀ pe, began pe = { s with pe := pe, pq := { s.pq with inPrint := true } }.answered
              [0x00, 0x00, 0x4C, 0x01, 0x00]) →
            (((∃ n, e.body = .feed n)
                ∨ ∃ f cells rot sp, e.body = .text f cells rot sp ∧ f.h ≤ s.pe.entryRow) →
              exec (.printGo []) s = .next (began { s.pe with
                hold := noHold, engine := .feeding, lastV := some s.pins.vsense, row := .stepFeed }))
            ∧ (∀ f cells rot sp, e.body = .text f cells rot sp → s.pe.entryRow < f.h →
              s.pe.forced = true ∨ s.pe.cadM ≤ s.pe.cadS + 1 ∨ s.pe.lastT = none →
              exec (.printGo []) s = .next (began { s.pe with
                hold := noHold, engine := .printing, lastV := some s.pins.vsense, feedRun := 0
                cadS := s.pe.cadS + 1
                row := .tempWait
                  { v := s.pins.vsense, txOn := s.link.transmitterOn
                    wb := s.tor.nums.getD 21 0, k := s.tor.nums.getD 22 0, h := s.tor.nums.getD 23 0
                    r := s.tor.nums.getD 24 0, ib := s.tor.nums.getD 25 0
                    itx := s.tor.nums.getD 26 0 } })))))

/-- LOAD_CHARACTER answers BUSY or RANGE, else sets that one glyph; a row of an entry is composed of
the glyphs its cells select, turned if rotated. The dots of the built-in glyphs are free values (log
entry 11). (02 R36 (in part), 02 R26, 02 R27 (in part), 02 R28, 02 R29 (in part), 02 R30, 02 R31, 02
R32 (in part), 02 R33 (in part), 03 R47 (in part).) -/
def Obligations.LoadCharacterSetsOneGlyph : Prop :=
  (∀ (s : State) (p : List Byte), PortReady s → p.length ≤ 63 →
    (s.store.state ≠ .idle → exec (.loadCharacter p) s = .next (s.answered [0x04, 0x00]))
    ∧ (s.store.state = .idle →
      (p.length < 2 ∨ (p.getD 0 0).toNat < 0x80 ∨ 0x9F < (p.getD 0 0).toNat ∨ 1 < (p.getD 1 0).toNat
        ∨ (p.getD 1 0 = 0 ∧ p.length ≠ 38) ∨ (p.getD 1 0 = 1 ∧ p.length ≠ 18) →
        exec (.loadCharacter p) s = .next (s.answered [0x03, 0x00]))
      ∧ ∀ (code font : Byte) (bm : List Byte), p = code :: font :: bm →
        0x80 ≤ code.toNat → code.toNat ≤ 0x9F →
        (font = 0 ∧ bm.length = 36 ∨ font = 1 ∧ bm.length = 16) →
        s.cg.std.length = 32 → s.cg.cond.length = 32 →
        ∃ g, exec (.loadCharacter p) s = .next ({ s with cg := g }.answered [0x00, 0x00])
          ∧ ∀ (f : Font) (c : Byte), 0x80 ≤ c.toNat → c.toNat ≤ 0x9F →
              g.user f c = if c = code ∧ f = (if font = 0 then .std else .cond) then some bm
                else s.cg.user f c))
  ∧ (∀ (g : CharGen) (f : Font) (c : Cell) (r j : Nat),
    (c.error = true ∨ c.code.toNat < 0x20 ∨ c.code.toNat = 0x7F ∨ 0xA0 ≤ c.code.toNat
        ∨ (0x80 ≤ c.code.toNat ∧ c.code.toNat ≤ 0x9F ∧ g.user f c.code = none) →
      glyphDot g f c r j = decide ((r / 2 + j / 2) % 2 = 0))
    ∧ (∀ bm, c.error = false → 0x80 ≤ c.code.toNat → c.code.toNat ≤ 0x9F → g.user f c.code = some bm →
      glyphDot g f c r j = (bm.getD ((r * f.cw + j) / 8) 0).getLsbD (7 - (r * f.cw + j) % 8))
    ∧ (c.error = false → 0x20 ≤ c.code.toNat → c.code.toNat ≤ 0x7E →
      c.code = 0x20 ∨ j = f.cw - 1 ∨ r = f.h - 1 → glyphDot g f c r j = false)
    ∧ (cellRow g f r c).length = (if c.double then 2 * f.cw else f.cw)
    ∧ (j < f.cw → ∀ d, d = (glyphDot g f c r j
          || (c.underline && decide (r = match f with | .std => 22 | .cond => 15))) →
      (c.double = false → (cellRow g f r c)[j]? = some d)
      ∧ (c.double = true →
        (cellRow g f r c)[2 * j]? = some d ∧ (cellRow g f r c)[2 * j + 1]? = some d)))
  ∧ ∀ (s : State) (e : Entry) (rest : List Entry) (f : Font) (cells : List Cell) (rot : Bool) (sp i : Nat),
    s.pq.entries = e :: rest → e.body = .text f cells rot sp → s.pe.entryRow < f.h → i < 384 →
    (composeHead s).getLsbD (if rot then 383 - i else i)
      = (cells.flatMap (cellRow s.cg f
          (if rot then f.h - 1 - s.pe.entryRow else s.pe.entryRow))).getD i false

/-- W1, F, W2, Wp and We of a row cycle: the formulas of the heat arithmetic with rounding half up,
and their bounds. (R51.) -/
def Obligations.WidthsFollowSupplyAndTemperature : Prop :=
  ∀ (inp : RowInputs) (t : Int), 200 ≤ inp.wb → inp.wb ≤ 2000 → 0 ≤ inp.k → inp.k ≤ 30 →
    50 ≤ inp.h → inp.h ≤ 100 → ∃ v T w : Int,
    v = (if (inp.v : Int) < 50 then 50 else if 75 < (inp.v : Int) then 75 else inp.v)
    ∧ T = (if t < -20 then -20 else if 70 < t then 70 else t)
    ∧ 2 * (v * v) * widthW1 inp.wb inp.v ≤ 2 * (inp.wb * 3600) + v * v
    ∧ 2 * (inp.wb * 3600) + v * v < 2 * (v * v) * (widthW1 inp.wb inp.v + 1)
    ∧ (inp.v = 60 → widthW1 inp.wb inp.v = inp.wb)
    ∧ factorF inp.k t = max 250 (1000 + inp.k * (25 - T))
    ∧ (T ≤ 25 → 1000 ≤ factorF inp.k t) ∧ (25 ≤ T → factorF inp.k t ≤ 1000)
    ∧ 2000 * w ≤ 2 * (widthW1 inp.wb inp.v * factorF inp.k t) + 1000
    ∧ 2 * (widthW1 inp.wb inp.v * factorF inp.k t) + 1000 < 2000 * (w + 1)
    ∧ widthW2 inp t = (if w < 100 then 100 else if 4000 < w then 4000 else w)
    ∧ 200 * widthWp inp t ≤ 2 * (widthW2 inp t * inp.h) + 100
    ∧ 2 * (widthW2 inp t * inp.h) + 100 < 200 * (widthWp inp t + 1)
    ∧ 0 ≤ widthWp inp t ∧ widthWp inp t ≤ widthW2 inp t
    ∧ widthWe inp t = widthW2 inp t - widthWp inp t ∧ 0 ≤ widthWe inp t

/-- The black dots are cut in head order into ceil(N / Dmax) phases of at most Dmax dots, at most
16, and none for N = 0. (R54.) -/
def Obligations.PhasesSplitTheRowWithinTheLimit : Prop :=
  ∀ (inp : RowInputs) (dots history : Dots), 150 ≤ inp.r → inp.r ≤ 250 → 500 ≤ inp.ib →
    inp.ib ≤ 4000 → 0 ≤ inp.itx → inp.itx ≤ 500 →
    ∃ (black : List Nat) (phases : List (List Nat)) (v q : Int),
      black = blackDots dots ∧ phases = splitPhases (limitDmax inp) black.length black
      ∧ black.Pairwise (· < ·) ∧ (∀ i, i ∈ black ↔ i < 384 ∧ dots.getLsbD i = true)
      ∧ phases.flatten = black
      ∧ (∀ ps ∈ phases, 1 ≤ ps.length ∧ ps.length ≤ limitDmax inp
          ∧ ∀ i ∈ newlyBlack history ps, i ∈ ps ∧ history.getLsbD i = false)
      ∧ (∀ ps ∈ phases.dropLast, ps.length = limitDmax inp)
      ∧ phases.length = (black.length + limitDmax inp - 1) / limitDmax inp ∧ phases.length ≤ 16
      ∧ (black = [] → phases = [])
      ∧ v = (if (inp.v : Int) < 50 then 50 else if 75 < (inp.v : Int) then 75 else inp.v)
      ∧ v * 100 * q ≤ (if inp.txOn then inp.ib - inp.itx else inp.ib) * inp.r
      ∧ (if inp.txOn then inp.ib - inp.itx else inp.ib) * inp.r < v * 100 * (q + 1)
      ∧ (limitDmax inp : Int) = (if q < 24 then 24 else if 384 < q then 384 else q)
      ∧ 24 ≤ limitDmax inp ∧ limitDmax inp ≤ 200

/-- TEMPERATURE_MEASUREMENT stores T, recomputes M, clears S and the forced flag, adds HOT at 70,
and the row goes on. That TEMPERATURE MEASUREMENT without a row that waits for it changes nothing is
the model's choice (log entry 2). (03 R49 (in part), 03 R58 (in part), 03 R59 (in part), 03 R41 (in
part), 03 R47 (in part), 03 R50 (in part).) -/
def Obligations.RowTemperatureSetsCadenceAndHot : Prop :=
  ∀ (s : State) (T : Int), Awake s → s.port.out.length ≤ 125 →
    ((∀ inp, s.pe.row ≠ .tempWait inp) → exec (.temperatureMeasurement T) s = .next s)
    ∧ ∀ inp, s.pe.row = .tempWait inp → ∃ t m, exec (.temperatureMeasurement T) s = .next t
      ∧ t = { s with pe := t.pe, port := t.port }
      ∧ t.pe = { s.pe with
          lastT := some T, cadS := 0, forced := false, cadM := m
          hold := if 70 ≤ T then { s.pe.hold with hot := true } else s.pe.hold
          row := t.pe.row, bus := t.pe.bus, loadWait := t.pe.loadWait }
      ∧ (s.pe.lastT = none → m = s.pe.cadM)
      ∧ (s.pe.lastT = some T → m = min (2 * s.pe.cadM) 64)
      ∧ (∀ T0, s.pe.lastT = some T0 → T0 ≠ T → m = max 4 (min 64 (2 * s.pe.cadM / (T - T0).natAbs)))
      ∧ t.port = { s.port with out := s.port.out
          ++ if 70 ≤ T ∧ s.pe.hold.hot = false then [0x4C, 0x01, { s.pe.hold with hot := true }.byte]
             else [] }
      ∧ (blackDots (composeHead s) = [] →
          t.pe.row = .stepPrinted (composeHead s) ∧ t.pe.bus = s.pe.bus ∧ t.pe.loadWait = s.pe.loadWait)
      ∧ (blackDots (composeHead s) ≠ [] →
          t.pe.row = .load
            { dots := composeHead s, wp := (widthWp inp T).toNat, we := (widthWe inp T).toNat
              phases := splitPhases (limitDmax inp) (blackDots (composeHead s)).length
                (blackDots (composeHead s))
              extension := false }
          ∧ (s.pe.bus = .free ∧ s.pe.scanWait = none →
              t.pe.bus = .head ∧ t.pe.loadWait = s.pe.loadWait)
          ∧ (s.pe.bus ≠ .free ∨ s.pe.scanWait ≠ none →
              t.pe.bus = s.pe.bus ∧ t.pe.loadWait = true))

/-- HEAD_LOAD shifts the phase's dots, dot 383 first, latches them and asserts STB; STROBE_END goes
on to the extension, the next phase or the step. That HEAD LOAD without a granted load (log entry
14) and STROBE END without a strobe (log entry 2) change nothing is the model's choice. (03 R55 (in
part), 03 R60 (in part).) -/
def Obligations.HeadLoadStrobesThePhase : Prop :=
  (∀ (s : State) (f : Firing) (ps : List Nat) (more : List (List Nat)), Awake s →
    s.pe.row = .load f → s.pe.bus = .head → s.pe.loadWait = false → f.phases = ps :: more →
    ∃ latch : Dots, exec .headLoad s = .next { s with pe := { s.pe with
        row := .strobe f, headLatch := latch, scanWait := none
        bus := if s.pe.scanWait = none then .free else .scan } }
      ∧ (∀ i, i < 384 → (latch.getLsbD i = true ↔
          i ∈ ps ∧ (f.extension = true → s.pe.history.getLsbD i = false)))
      ∧ strobeWidth { s with pe := { s.pe with row := .strobe f } }
          = some (if f.extension then f.we else f.wp)
      ∧ (sdatOut s).length = 384
      ∧ ∀ k, k < 384 → (sdatOut s)[k]? = some (latch.getLsbD (383 - k)))
  ∧ (∀ s : State, Awake s → ((∀ f, s.pe.row ≠ .load f) ∨ s.pe.bus ≠ .head) →
      exec .headLoad s = .next s)
  ∧ (∀ (s : State) (f : Firing) (ps : List Nat) (more : List (List Nat)), Awake s →
    s.pe.row = .strobe f → f.phases = ps :: more → ∀ bus loadWait,
    (bus, loadWait) = (if s.pe.bus = .free ∧ s.pe.scanWait = none then (.head, s.pe.loadWait)
      else (s.pe.bus, true)) →
    (f.extension = false → 0 < f.we → (∃ i ∈ ps, s.pe.history.getLsbD i = false) →
      exec .strobeEnd s
        = .next { s with pe := { s.pe with
            row := .load { f with extension := true }, bus := bus, loadWait := loadWait } })
    ∧ (f.extension = true ∨ f.we = 0 ∨ (∀ i ∈ ps, s.pe.history.getLsbD i = true) →
      (more ≠ [] → exec .strobeEnd s = .next { s with pe := { s.pe with
          row := .load { f with phases := more, extension := false }, bus := bus, loadWait := loadWait } })
      ∧ (more = [] → exec .strobeEnd s = .next { s with pe := { s.pe with row := .stepPrinted f.dots } })))
  ∧ (∀ s : State, Awake s → (∀ f, s.pe.row ≠ .strobe f) → exec .strobeEnd s = .next s)

/-- MOTOR_STEP advances the four-phase motor one position, updates the history row, ends the row and
removes a complete entry. The model's choices: MOTOR STEP without a row at its step changes nothing
(log entry 2), the supply at the next row's opening is the one VSENSE holds (log entry 7), and COPY
PRINTED stands ahead of HOLD CHANGE (log entry 20). Left out: a pending PAPER OUT or LEVER UP, a
pending block and a wait list, and the entry that waits behind a direct feed. (03 R62 (in part), 03
R56 (in part), 03 R57 (in part), 03 R63 (in part), 03 R39 (in part), 01 R7 (in part), 03 R65 (in
part), 03 R42 (in part).) -/
def Obligations.MotorStepEndsTheRow : Prop :=
  (∀ (s : State) (v : Nat), Awake s → s.pe.row.atStep = false → exec (.motorStep v) s = .next s)
  ∧ (∀ (s : State) (v n : Nat) (pe : PrintEngine) (ends : PrintEngine → List Byte → Prop), Awake s →
    s.pe.row = .stepFeed → s.port.out.length ≤ 90 → s.pe.engine = .feeding →
    s.pe.leverPending = false → s.pe.directFeed = some n →
    pe = { s.pe with
      motorPos := (s.pe.motorPos + 1) % 4, motorOn := true, history := 0
      feedRun := s.pe.feedRun + 1, forced := s.pe.forced || decide (s.pe.feedRun = 47) } →
    (∀ p bytes, ends p bytes ↔ exec (.motorStep v) s
      = .next ({ s with pins := { s.pins with vsense := v }, pe := p }.answered bytes)) →
    ∀ goesOn : Prop, (goesOn ↔ 2 ≤ n ∧ s.pe.hold.hot = false ∧ s.pe.hold.lowSupply = false
      ∧ s.pe.hold.leverUp = false ∧ s.pe.hold.linkTraining = false) →
    (goesOn → 50 ≤ v →
      ends { pe with directFeed := some (n - 1), lastV := some v, row := .stepFeed } [])
    ∧ (goesOn → v < 50 → ∀ h, h = { s.pe.hold with lowSupply := true } →
      ends { pe with directFeed := none, row := .idle, hold := h, engine := .held, forced := true }
        [0x4C, 0x01, h.byte])
    ∧ (¬ goesOn → s.pe.hold ≠ noHold →
      ends { pe with directFeed := none, row := .idle, engine := .held, forced := true } [])
    ∧ (¬ goesOn → s.pe.hold = noHold → s.pq.entries = [] →
      ends { pe with directFeed := none, row := .idle, engine := .idle, forced := true } []))
  ∧ ∀ (s : State) (v : Nat), Awake s → s.pe.row.atStep = true → s.port.out.length ≤ 90 →
    s.pe.engine = .printing ∨ s.pe.engine = .feeding → s.pe.leverPending = false →
    s.pe.paperPending = false → s.pe.directFeed = none → s.pq.pendingBlock = none →
    s.pq.waitList = [] → ∀ (e : Entry) (rest : List Entry), s.pq.entries = e :: rest →
    ∃ t : State, ∃ notices, exec (.motorStep v) s = .next t ∧ t.pins = { s.pins with vsense := v }
      ∧ t = { s with pins := t.pins, pe := t.pe, pq := t.pq, port := t.port }
      ∧ t.pe.motorPos = (s.pe.motorPos + 1) % 4 ∧ t.pe.motorOn = true
      ∧ t.pe.history = (if t.pe.engine = .held ∨ t.pe.engine = .idle then 0
          else match s.pe.row with | .stepPrinted d => d | _ => 0)
      ∧ (s.pe.row = .stepFeed → t.pe.engine = .feeding ∨ t.pe.engine = .held ∨ t.pe.engine = .idle →
          t.pe.feedRun = s.pe.feedRun + 1 ∧ (s.pe.feedRun = 47 → t.pe.forced = true))
      ∧ (e.cutMark = true ∨ e.body.rows ≤ s.pe.entryRow + 1 →
          t.pq.entries = rest ∧ t.pe.entryRow = 0
          ∧ t.port.out = s.port.out
              ++ (if e.lastOfBlock ∧ e.cutMark = false then [0x5A, 0x00] else []) ++ notices)
      ∧ (e.cutMark = false → s.pe.entryRow + 1 < e.body.rows →
          t.pq.entries = e :: rest ∧ t.pe.entryRow = s.pe.entryRow + 1
          ∧ t.port.out = s.port.out ++ notices)
      ∧ (s.pe.hold ≠ noHold → t.pe.engine = .held ∧ t.pe.row = .idle ∧ notices = [])
      ∧ (s.pe.hold = noHold → t.pq.entries = [] → t.pe.engine = .idle ∧ t.pe.row = .idle ∧ notices = [])

/-- HOT leaves the set at a measurement of 60 or less, LOW SUPPLY at 52 or more, each with HOLD
CHANGE; 61 to 69, 50 and 51 keep. The model's choices: a measurement without its cause changes
nothing (log entry 2), VSENSE holds the measured value (log entry 7), and the last measured V of R42
stays (log entry 18). (03 R41 (in part), 03 R42 (in part), 03 R40 (in part).) -/
def Obligations.HoldMeasurementsReleaseHotAndLowSupply : Prop :=
  (∀ (s : State) (T : Int), Awake s → s.pe.hold.hot = false → exec (.hotMeasurement T) s = .next s)
  ∧ (∀ (s : State) (v : Nat), Awake s → s.pe.hold.lowSupply = false →
      exec (.lowSupplyMeasurement v) s = .next s)
  ∧ (∀ (s : State) (T : Int), Awake s → s.pe.hold.hot = true → s.port.out.length ≤ 125 →
      (60 < T → exec (.hotMeasurement T) s = .next { s with pe := { s.pe with lastT := some T } })
      ∧ (T ≤ 60 → ∀ h : HoldSet, h = { s.pe.hold with hot := false } →
        (s.pe.engine ≠ .held ∨ h ≠ noHold → exec (.hotMeasurement T) s
          = .next ({ s with pe := { s.pe with lastT := some T, hold := h } }.answered
              [0x4C, 0x01, h.byte]))
        ∧ (s.pe.engine = .held → h = noHold → s.pe.directFeed = none → s.pq.entries = [] →
          exec (.hotMeasurement T) s = .next ({ s with pe := { s.pe with
            lastT := some T, hold := h, engine := .idle, history := 0, forced := true } }.answered
              [0x4C, 0x01, 0x00]))))
  ∧ (∀ (s : State) (v : Nat), Awake s → s.pe.hold.lowSupply = true → s.port.out.length ≤ 125 →
      (v < 52 → exec (.lowSupplyMeasurement v) s
        = .next { s with pins := { s.pins with vsense := v } })
      ∧ (52 ≤ v → ∀ h : HoldSet, h = { s.pe.hold with lowSupply := false } →
        (s.pe.engine ≠ .held ∨ h ≠ noHold → exec (.lowSupplyMeasurement v) s
          = .next ({ s with pins := { s.pins with vsense := v }, pe := { s.pe with hold := h } }.answered
              [0x4C, 0x01, h.byte]))
        ∧ (s.pe.engine = .held → h = noHold → s.pe.directFeed = none → s.pq.entries = [] →
          exec (.lowSupplyMeasurement v) s = .next ({ s with
            pins := { s.pins with vsense := v }
            pe := { s.pe with hold := h, engine := .idle, history := 0, forced := true } }.answered
              [0x4C, 0x01, 0x00]))))

/-- PAPER_ABSENT adds PAPER OUT at once, or sets its pending flag behind an entry in print; 500 ms
of paper remove both. That PAPER COUNT EXPIRY with the count not running changes nothing is the
model's choice (log entry 2). Left out: a HELD engine that the removal lets go on with entries
waiting. (03 R43 (in part), 03 R40 (in part).) -/
def Obligations.PaperReportsActAtTheEntrysEnd : Prop :=
  ∀ s : State, Awake s → s.port.power = .run → s.port.out.length ≤ 125 →
    (s.pe.hold.paperOut = true → exec .paperAbsent s = .next { s with
        pins := { s.pins with paperAbsent := true }, pe := { s.pe with paperCount := .stopped } })
    ∧ (s.pe.hold.paperOut = false → s.pq.inPrint = true → exec .paperAbsent s = .next { s with
        pins := { s.pins with paperAbsent := true }
        pe := { s.pe with paperCount := .stopped, paperPending := true } })
    ∧ (s.pe.hold.paperOut = false → s.pq.inPrint = false → ∀ h : HoldSet,
        h = { s.pe.hold with paperOut := true } →
        (s.pe.engine ≠ .idle → exec .paperAbsent s = .next ({ s with
          pins := { s.pins with paperAbsent := true }
          pe := { s.pe with paperCount := .stopped, hold := h } }.answered [0x4C, 0x01, h.byte]))
        ∧ (s.pe.engine = .idle → s.pe.directFeed = none → exec .paperAbsent s = .next ({ s with
          pins := { s.pins with paperAbsent := true }
          pe := { s.pe with
            paperCount := .stopped, hold := h, engine := .held, history := 0
            forced := true } }.answered [0x4C, 0x01, h.byte])))
    ∧ exec .paperPresent s = .next { s with
        pins := { s.pins with paperAbsent := false }
        pe := { s.pe with paperCount :=
          if s.pe.paperCount = .stopped then .running else s.pe.paperCount } }
    ∧ (s.pe.paperCount ≠ .running → exec .paperCountExpiry s = .next s)
    ∧ (s.pe.paperCount = .running → s.pe.hold.paperOut = false → exec .paperCountExpiry s = .next { s with
        pe := { s.pe with paperCount := .reached, paperPending := false } })
    ∧ (s.pe.paperCount = .running → s.pe.hold.paperOut = true → ∀ h : HoldSet,
        h = { s.pe.hold with paperOut := false } →
        (s.pe.engine ≠ .held ∨ h ≠ noHold → exec .paperCountExpiry s = .next ({ s with
          pe := { s.pe with paperCount := .reached, paperPending := false, hold := h } }.answered
          [0x4C, 0x01, h.byte]))
        ∧ (s.pe.engine = .held → h = noHold → s.pe.directFeed = none → s.pq.entries = [] →
          exec .paperCountExpiry s = .next ({ s with pe := { s.pe with
            paperCount := .reached, paperPending := false, hold := h, engine := .idle, history := 0
            forced := true } }.answered [0x4C, 0x01, 0x00])))

/-- LEVER_OPEN adds LEVER UP at the next row boundary, at once with no row in progress; 500 ms of
closure remove it. That LEVER COUNT EXPIRY with the count not running changes nothing is the model's
choice (log entry 2). Left out: a HELD engine that the removal lets go on with entries waiting. (03
R44 (in part), 03 R40 (in part).) -/
def Obligations.LeverReportsActAtTheRowBoundary : Prop :=
  ∀ s : State, Awake s → s.port.power = .run → s.port.out.length ≤ 125 →
    (s.pe.hold.leverUp = true → exec .leverOpen s = .next { s with
        pins := { s.pins with leverOpen := true }, pe := { s.pe with leverCount := .stopped } })
    ∧ (s.pe.hold.leverUp = false → s.pe.row ≠ .idle → exec .leverOpen s = .next { s with
        pins := { s.pins with leverOpen := true }
        pe := { s.pe with leverCount := .stopped, leverPending := true } })
    ∧ (s.pe.hold.leverUp = false → s.pe.row = .idle → ∀ h : HoldSet,
        h = { s.pe.hold with leverUp := true } →
        (s.pe.engine ≠ .idle → exec .leverOpen s = .next ({ s with
          pins := { s.pins with leverOpen := true }
          pe := { s.pe with leverCount := .stopped, hold := h } }.answered [0x4C, 0x01, h.byte]))
        ∧ (s.pe.engine = .idle → s.pe.directFeed = none → exec .leverOpen s = .next ({ s with
          pins := { s.pins with leverOpen := true }
          pe := { s.pe with
            leverCount := .stopped, hold := h, engine := .held, history := 0
            forced := true } }.answered [0x4C, 0x01, h.byte])))
    ∧ exec .leverClosed s = .next { s with
        pins := { s.pins with leverOpen := false }
        pe := { s.pe with leverCount :=
          if s.pe.leverCount = .stopped then .running else s.pe.leverCount } }
    ∧ (s.pe.leverCount ≠ .running → exec .leverCountExpiry s = .next s)
    ∧ (s.pe.leverCount = .running → s.pe.hold.leverUp = false → exec .leverCountExpiry s = .next { s with
        pe := { s.pe with leverCount := .reached } })
    ∧ (s.pe.leverCount = .running → s.pe.hold.leverUp = true → ∀ h : HoldSet,
        h = { s.pe.hold with leverUp := false } →
        (s.pe.engine ≠ .held ∨ h ≠ noHold → exec .leverCountExpiry s = .next ({ s with
          pe := { s.pe with leverCount := .reached, hold := h } }.answered [0x4C, 0x01, h.byte]))
        ∧ (s.pe.engine = .held → h = noHold → s.pe.directFeed = none → s.pq.entries = [] →
          exec .leverCountExpiry s = .next ({ s with pe := { s.pe with
            leverCount := .reached, hold := h, engine := .idle, history := 0
            forced := true } }.answered [0x4C, 0x01, 0x00])))

/-- WAIT_LIST_SERVICE and PENDING_BLOCK_APPEND append what fits in order; FAR_HOLD_TIMEOUT commits a
FAR line that holds a cell. The model's choices: PENDING BLOCK APPEND without a block, and FAR HOLD
TIMEOUT without its timer running, change nothing (log entry 2), and the two service rows serve
whatever waits, once more (log entry 3). (01 R4 (in part), 01 R5 (in part), 01 R17 (in part), 09
R184 (in part).) -/
def Obligations.WaitListServiceKeepsItsOrder : Prop :=
  ∀ s : State, Awake s → s.pe.engine ≠ .idle →
    (s.pq.pendingBlock = none → s.pq.waitList = [.far] → (∀ c e r, s.dp ≠ .offer c e r) →
      s.pq.entries.length + s.la.far.waiting.length ≤ 40 →
      exec .waitListService s = .next { s with
        la := { s.la with far := { s.la.far with waiting := [] } }
        pq := { s.pq with entries := s.pq.entries ++ s.la.far.waiting, waitList := [] } })
    ∧ (s.pq.pendingBlock = none → s.pq.waitList = [.key] → s.fu.keyOut = [] →
      s.pq.entries.length + s.la.key.waiting.length ≤ 40 →
      exec .waitListService s = .next { s with
        la := { s.la with key := { s.la.key with waiting := [] } }
        pq := { s.pq with entries := s.pq.entries ++ s.la.key.waiting, waitList := [] } })
    ∧ (∀ nm rest, s.pq.pendingBlock = none → s.pq.waitList = nm :: rest →
      40 < s.pq.entries.length + (s.line nm).waiting.length → s.pq.entries.length ≤ 40 →
      exec .waitListService s = .next s)
    ∧ (∀ b, s.pq.pendingBlock = some b → 40 < s.pq.entries.length + b.length →
      s.pq.entries.length ≤ 40 →
      exec .waitListService s = .next s ∧ exec .pendingBlockAppend s = .next s)
    ∧ (s.pq.pendingBlock = none → exec .pendingBlockAppend s = .next s)
    ∧ (∀ b i, s.pq.pendingBlock = some b → s.pq.entries.length + b.length ≤ 40 →
      s.pq.waitList = [] → s.fu.inst = some i → s.tor.nums.getD 36 0 = 0 → s.port.out.length ≤ 122 →
      exec .pendingBlockAppend s = .next ({ s with
        pq := { s.pq with entries := s.pq.entries ++ b, pendingBlock := none }
        fu := { s.fu with inst := none } }.answered
          [0x58, 0x04, 0x00, byteOf i.number, 0x03, 0x00]))
    ∧ (s.la.far.cells = [] ∨ s.tor.nums.getD 20 0 = 0 → exec .farHoldTimeout s = .next s)
    ∧ (s.la.far.cells ≠ [] → s.tor.nums.getD 20 0 ≠ 0 → s.pq.entries.length ≤ 39 →
      s.pq.pendingBlock = none → s.pq.waitList = [] →
      exec .farHoldTimeout s = .next { s with
        la := { s.la with far := ⟨[], 0, false, false, none, s.la.far.waiting⟩, farHoldMs := 0 }
        pq := { s.pq with entries := s.pq.entries ++
          [⟨.far, .text (s.la.far.font.getD (if s.tor.nums.getD 17 0 = 0 then .std else .cond))
              (commitCells 0 s.la.far.cells) false (s.tor.nums.getD 18 0).toNat, false, false⟩] } })

/-- SCAN_REQUEST asks for the bus; a granted KEY_ROW_SCAN drives its row, moves the pointer and
gives each key its reading. The model's choices: an ungranted KEY ROW SCAN (log entry 14) and a
TYPEMATIC TIMER without a subject (log entry 2) change nothing, and a scan granted before the store
began to LOAD still gives each key of its row its reading (log entry 41). (07 R133 (in part), 07
R134 (in part), 07 R135 (in part), 07 R136 (in part), 07 R137 (in part), 07 R138 (in part), 07 R140
(in part), 07 R141 to R143 (in part), 07 R144 (in part), 07 R145 (in part), 07 R146 (in part), 03
R60 and R61 (in part).) -/
def Obligations.KeyRowScanDebouncesEachKey : Prop :=
  (∀ s : State, Awake s →
    ((s.port.power = .dormant ∨ s.store.state.isLoading = true ∨ s.pe.scanWait ≠ none) →
      exec .scanRequest s = .next s)
    ∧ (s.port.power ≠ .dormant → s.store.state.isLoading = false → s.pe.scanWait = none →
      exec .scanRequest s = .next { s with pe :=
        if s.pe.bus = .free ∧ s.pe.loadWait = false then { s.pe with bus := .scan }
        else { s.pe with scanWait := some 0 } })
    ∧ (∀ row, s.pe.bus ≠ .scan → exec (.keyRowScan row) s = .next s)
    ∧ (s.ks.typematic = none → exec .typematicTimer s = .next s)
    ∧ (∀ k, s.ks.typematic = some k → ∃ p : Int,
        exec .typematicTimer s = .next { s with ks := { s.ks with
          due := true, typematic := some { k with inDelay := false, timeUs := p } } }
        ∧ (0 < s.tor.nums.getD 34 0 →
            2 * s.tor.nums.getD 34 0 * p ≤ 2 * 1000000 + s.tor.nums.getD 34 0
            ∧ 2 * 1000000 + s.tor.nums.getD 34 0 < 2 * s.tor.nums.getD 34 0 * (p + 1))))
  ∧ (∀ (s : State) (row : BitVec 10), Awake s → s.pe.bus = .scan → s.ks.keys.length = 80 →
    s.ks.rowPtr < 8 → s.ks.due = false →
    (∀ c, c < 10 → ∀ n, 2 ≤ n →
      ((s.ks.key (10 * s.ks.rowPtr + c)).deb = .makePending n → row.getLsbD c = false)
      ∧ ((s.ks.key (10 * s.ks.rowPtr + c)).deb = .breakPending n → row.getLsbD c = true)) →
    ∃ t, exec (.keyRowScan row) s = .next t
      ∧ t = { s with
          pe := { s.pe with bus := t.pe.bus, loadWait := t.pe.loadWait, scanWait := t.pe.scanWait }
          ks := { s.ks with
            keys := t.ks.keys, keyLatch := 1#8 <<< s.ks.rowPtr, rowPtr := (s.ks.rowPtr + 1) % 8 } }
      ∧ sdatOut s = (List.range 8).map (fun k => decide (7 - k = s.ks.rowPtr))
      ∧ (s.pe.loadWait = false → s.pe.scanWait = none → t.pe.bus = .free)
      ∧ (s.pe.loadWait = true → s.pe.scanWait = none → t.pe.bus = .head ∧ t.pe.loadWait = false)
      ∧ (∀ k, k < 80 → k / 10 ≠ s.ks.rowPtr → t.ks.key k = s.ks.key k)
      ∧ ∀ c, c < 10 → t.ks.key (10 * s.ks.rowPtr + c) =
          (let q := s.ks.key (10 * s.ks.rowPtr + c)
           match q.deb, row.getLsbD c with
            | .up, true => if q.releaseRequired then q else { q with deb := .makePending 1 }
            | .up, false => { q with releaseRequired := false }
            | .makePending _, true => { q with deb := .makePending 2 }
            | .makePending _, false => { q with deb := .up }
            | .down, true => q
            | .down, false => { q with deb := .breakPending 1 }
            | .breakPending _, true => { q with deb := .down }
            | .breakPending _, false => { q with deb := .breakPending 2 }))
  ∧ ∀ (s : State) (row : BitVec 10) (k c : Nat) (q : KeyState) (rect : Prop), Awake s →
    s.pe.bus = .scan → s.ks.keys.length = 80 → s.ks.rowPtr < 8 → c < 10 →
    k = 10 * s.ks.rowPtr + c → q = s.ks.key k →
    (∀ d, d < 10 → d ≠ c →
      ((s.ks.key (10 * s.ks.rowPtr + d)).deb = .up
        ∧ (s.ks.key (10 * s.ks.rowPtr + d)).releaseRequired = false ∧ row.getLsbD d = false)
      ∨ ((s.ks.key (10 * s.ks.rowPtr + d)).deb = .down ∧ row.getLsbD d = true)) →
    (rect ↔ ∃ r' c', r' < 8 ∧ c' < 10 ∧ r' ≠ s.ks.rowPtr ∧ c' ≠ c
      ∧ ∀ j ∈ [10 * s.ks.rowPtr + c', 10 * r' + c', 10 * r' + c],
        (s.ks.key j).deb = .down ∨ ∃ n, (s.ks.key j).deb = .breakPending n) →
    ∀ ends : KeyState → KeyScanner → List Byte → Prop,
    (∀ q' w bytes, ends q' w bytes ↔ (bytes = [] ∨ s.port.out.length ≤ 124 →
      ∃ t, exec (.keyRowScan row) s = .next t ∧ t = { s with
          pe := { s.pe with bus := t.pe.bus, loadWait := t.pe.loadWait, scanWait := t.pe.scanWait }
          ks := { w with
            keys := s.ks.keys.set k q', keyLatch := 1#8 <<< s.ks.rowPtr
            rowPtr := (s.ks.rowPtr + 1) % 8 }
          port := { s.port with out := s.port.out ++ bytes } })) →
    (s.ks.due = false → (∃ n, 2 ≤ n ∧ q.deb = .makePending n) → row.getLsbD c = true →
      (rect → ends { q with deb := .makePending 3 } s.ks [])
      ∧ (¬ rect → ∀ m : ModKind,
          (s.kr.entry .base k).kind = .action
            (match m with | .shift => .shift | .ctrl => .ctrl | .func => .func) →
          ends { q with deb := .down, modKind := some m } s.ks [])
      ∧ (¬ rect → (s.kr.entry .base k).kind ≠ .action .shift → (s.kr.entry .base k).kind ≠ .action .ctrl →
          (s.kr.entry .base k).kind ≠ .action .func →
        (6 ≤ s.ks.downList.length → ends { q with deb := .makePending 3 } s.ks [])
        ∧ (s.ks.downList.length < 6 → ∀ (rep : Bool) (w : KeyScanner),
          rep = (s.kr.entry (modState s.ks).layer k).rep →
          w = { s.ks with
            downList := s.ks.downList ++ [⟨k, rep⟩]
            typematic := if rep then some ⟨k, true, 10000 * s.tor.nums.getD 33 0⟩ else none } →
          (s.ks.kq.length < 16 →
            ends { q with deb := .down } { w with kq := s.ks.kq ++ [⟨k, .make, modState s.ks⟩] } [])
          ∧ (16 ≤ s.ks.kq.length →
            ends { q with deb := .down } { w with kqOverrun := true }
              (if s.ks.kqOverrun then [] else [0x49, 0x02, byteOf k, 0x00])))))
    ∧ (s.ks.due = false → (∃ n, 2 ≤ n ∧ q.deb = .breakPending n) → row.getLsbD c = false → ∃ t,
        exec (.keyRowScan row) s = .next t
        ∧ t.ks.key k = { q with deb := .up, modKind := none }
        ∧ t.ks.downList = s.ks.downList.filter (fun d => d.key ≠ k)
        ∧ t.ks.kq = s.ks.kq ∧ t.port = s.port)
    ∧ ∀ ty, s.ks.due = true → s.ks.typematic = some ty → ty.key = k →
      (row.getLsbD c = true → q.deb = .down ∨ (∃ n, q.deb = .breakPending n) →
        (s.ks.kq.length < 16 → ends { q with deb := .down }
          { s.ks with due := false, kq := s.ks.kq ++ [⟨k, .repeated, modState s.ks⟩] } [])
        ∧ (16 ≤ s.ks.kq.length → ends { q with deb := .down }
          { s.ks with due := false, kqOverrun := true }
          (if s.ks.kqOverrun then [] else [0x49, 0x02, byteOf k, 0x01])))
      ∧ (row.getLsbD c = false → q.deb = .down → ends { q with deb := .breakPending 1 } s.ks [])

/-- KEY_EVENT_EXAMINE delivers the head event's code or action by keymap, lock, LOCAL flag and
routing, or leaves it at the head. The model's choices: with KQ empty nothing changes (log entry 2),
KEY ACTION stands first (log entry 20), a FEED row reads VSENSE as it stands (log entry 7), no level
is held in DOWN or as a connection starts (log entry 15). Left out: DROP in QUALIFY and with a FAR
line to commit or a report, prompts (field 36 = 1). (08 R152 (in part), 08 R153 (in part), 08 R154
(in part), 08 R155 (in part), 08 R156 (in part), 08 R158 (in part), 08 R159 (in part), 08 R160 (in
part), 08 R161 (in part), 03 R65 (in part), 09 R171, R175, R181, R187 (in part), 04 R75, R92, R93
(in part).) -/
def Obligations.KeyEventIsLookedUpAndDelivered : Prop :=
  (∀ s : State, Awake s → s.ks.kq = [] → exec .keyEventExamine s = .next s)
  ∧ ∀ (s : State) (ev : KeyEvent) (ly : Layer) (out : State → State), Awake s →
    s.ks.kq = [ev] → s.fu.inst = none → s.port.out.length ≤ 90 →
    ly = (if ev.mods.func then .func else if ev.mods.ctrl then .ctrl
      else if ev.mods.shift then .shift else .base) →
    (∀ u, out u = { u with ks := { u.ks with kq := [], kqOverrun := false, echoBegun := false } }) →
    ((s.kr.entry ly ev.key).kind = .nothing → exec .keyEventExamine s = .next (out s))
    ∧ (∀ b, (s.kr.entry ly ev.key).kind = .code b →
      (s.tor.nums.getD 32 0 = 1 → exec .keyEventExamine s = .next (out s))
      ∧ (s.tor.nums.getD 32 0 = 0 →
        (s.tor.nums.getD 0 0 = 0 ∨ s.kr.localFlag = true →
          (s.kr.localFlag = true ∨ s.tor.nums.getD 31 0 = 1 → exec .keyEventExamine s = .next
            ((out s).answered [0x40, 0x04, byteOf ev.key, ev.kind.byte, byteOf ly.num, b]))
          ∧ (s.kr.localFlag = false → s.tor.nums.getD 31 0 = 0 → s.link.state = .online →
            (158 ≤ s.framer.data.length ∨ (∃ r, s.dp = .replyWait r) →
              exec .keyEventExamine s = .next s)
            ∧ (s.framer.data.length < 158 → (∀ r, s.dp ≠ .replyWait r) → s.framer.inFlight ≠ none →
              exec .keyEventExamine s = .next (out { s with framer := { s.framer with
                data := s.framer.data ++ [b] } })))
          ∧ (s.kr.localFlag = false → s.tor.nums.getD 31 0 = 0 → s.link.state ≠ .online →
              exec .keyEventExamine s = .next (out s))
          ∧ (s.kr.localFlag = false → s.tor.nums.getD 31 0 = 2 → ∀ told : State → State,
            (∀ u, told u = (out u).answered
              [0x40, 0x04, byteOf ev.key, ev.kind.byte, byteOf ly.num, b]) →
            (s.link.state ≠ .online → exec .keyEventExamine s = .next (told s))
            ∧ (s.link.state = .online →
              (158 ≤ s.framer.data.length ∨ (∃ r, s.dp = .replyWait r) →
                exec .keyEventExamine s = .next s)
              ∧ (s.framer.data.length < 158 → (∀ r, s.dp ≠ .replyWait r) → s.framer.inFlight ≠ none →
                exec .keyEventExamine s = .next (told { s with framer := { s.framer with
                  data := s.framer.data ++ [b] } })))))
        ∧ (s.tor.nums.getD 0 0 = 1 → s.kr.localFlag = false → s.tor.nums.getD 31 0 = 1 →
          (s.la.key.waiting ≠ [] → exec .keyEventExamine s = .next s)
          ∧ (s.la.key = emptyLine → 0x20 ≤ b.toNat → b.toNat ≠ 0x7F →
            exec .keyEventExamine s = .next ((out { s with la := { s.la with key :=
              ⟨[⟨0, ⟨b, false, false, false⟩⟩], 1, false, false,
               some (if s.tor.nums.getD 17 0 = 0 then .std else .cond), []⟩ } }).answered
                [0x40, 0x04, byteOf ev.key, ev.kind.byte, byteOf ly.num, b])))))
    ∧ ((s.kr.entry ly ev.key).kind = .action .localKey → exec .keyEventExamine s = .next
        ((out { s with kr := { s.kr with localFlag := !s.kr.localFlag } }).answered
          [0x41, 0x04, byteOf ev.key, ev.kind.byte, byteOf ly.num, 0x14]))
  ∧ (∀ (s : State) (ev : KeyEvent) (ly : Layer) (a : Action) (out : State → State)
      (ends : State → List Byte → Prop), Awake s → s.ks.kq = [ev] → s.port.out.length ≤ 90 →
    ly = (if ev.mods.func then .func else if ev.mods.ctrl then .ctrl
      else if ev.mods.shift then .shift else .base) →
    (∀ u, out u = { u with ks := { u.ks with kq := [], kqOverrun := false, echoBegun := false } }) →
    (s.kr.entry ly ev.key).kind = .action a →
    (∀ v bytes, ends v bytes ↔ exec .keyEventExamine s = .next ((out v).answered
      ([0x41, 0x04, byteOf ev.key, ev.kind.byte, byteOf ly.num, byteOf a.num] ++ bytes))) →
    (a = .shift ∨ a = .ctrl ∨ a = .func → ends s [])
    ∧ (a = .breakKey →
      (s.link.state = .online → s.link.breakSend = .none → ends { s with link := { s.link with
        breakSend := if s.framer.inFlight = none then .sending else .waiting } } [])
      ∧ (s.link.state ≠ .online ∨ s.link.breakSend ≠ .none → ends s []))
    ∧ (a = .feedKey → ∀ starts : Prop,
      (starts ↔ (s.pe.engine = .idle ∧ s.pe.hold = noHold)
        ∨ (s.pe.engine = .held ∧ (s.pe.hold.paperOut = true ∨ s.pe.hold.stopped = true)
          ∧ s.pe.hold.hot = false ∧ s.pe.hold.lowSupply = false ∧ s.pe.hold.leverUp = false
          ∧ s.pe.hold.linkTraining = false)) →
      (starts → 50 ≤ s.pins.vsense → ends { s with pe := { s.pe with
        engine := .feeding, directFeed := some 96, lastV := some s.pins.vsense, row := .stepFeed } } [])
      ∧ (starts → s.pins.vsense < 50 → ∀ h, h = { s.pe.hold with lowSupply := true } →
        ends { s with pe :=
          if s.pe.engine = EngineState.held then { s.pe with hold := h, directFeed := none }
          else { s.pe with hold := h, directFeed := none, engine := .held, history := 0, forced := true } }
          [0x4C, 0x01, h.byte])
      ∧ (¬ starts → s.pe.engine ≠ .idle → ends s []))
    ∧ (a = .orig ∨ a = .ans →
      (s.link.state ≠ .down ∨ s.port.power = .waking ∨ s.store.state.isLoading = true → ends s [])
      ∧ (s.link.state = .down → s.port.power ≠ .waking → s.store.state.isLoading = false →
        ends { s with link := { s.link with
          state := if a = .orig then .listen else .answering
          role := if a = .orig then .originate else .answer
          rate := some (if s.tor.nums.getD 1 0 = 0 then 110 else if s.tor.nums.getD 1 0 = 1 then 150 else 300)
          connectWait := some (s.tor.nums.getD 15 0), level := none } }
          [0x44, 0x02, if a = .orig then 0x01 else 0x02, 0x01]))
    ∧ (a = .drop → (s.link.state = .down → ends s [])
      ∧ (s.link.state = .listen ∨ s.link.state = .answering
          ∨ ((s.link.state = .online ∨ s.link.state = .fade) ∧ s.la.far.cells = []
            ∧ s.fu.inst.map FormInst.phase ≠ some .reporting) →
        ends { s with
          link := { s.link with
            state := .down, role := .none, connectWait := none, qualify := none, holdover := none
            breakSend := .none, spaceRun := none, breakPending := false, level := none
            gainPending := false
            gain := if s.link.gainPending = true ∧ s.tor.nums.getD 9 0 = 1
              then floor5 (clampInt 0 420 (s.tor.nums.getD 10 0)) else s.link.gain }
          framer := { s.framer with
            rx := .suspended, flow := [], data := [], inFlight := none, paused := false
            farPaused := false }
          dp := match s.dp with
            | .intro => .text | .args _ _ => .text | .replyWait _ => .text | p => p }
          [0x44, 0x02, 0x00, 0x01]))
    ∧ ∀ form : Prop, (form ↔ a ∈ [Action.fieldNext, .fieldBack, .formEnter, .formCancel]
        ∨ ∃ n, a = .openForm n) →
      (form → s.tor.nums.getD 32 0 = 1 → exec .keyEventExamine s = .next (out s))
      ∧ (s.tor.nums.getD 32 0 ≠ 1 →
        (s.la.key.waiting ≠ [] → ((∃ n, a = .openForm n) ∧ formState s = .closed)
            ∨ (a ∈ [Action.fieldNext, .fieldBack, .formEnter] ∧ formState s = .opened) →
          exec .keyEventExamine s = .next s)
        ∧ (∀ n, a = .openForm n → formState s ≠ .closed ∨ s.la.key.waiting = [] → OpenIsTaken 1 n s ends)
        ∧ (a = .formEnter → formState s ≠ .opened ∨ s.la.key.waiting = [] → CommitIsTaken 1 s ends)
        ∧ (a = .formCancel → CancelIsTaken 1 s ends)
        ∧ (a = .fieldNext ∨ a = .fieldBack →
          (formState s ≠ .opened → ends s [])
          ∧ ∀ (i : FormInst) (moved : Field → State), s.fu.inst = some i → i.phase = .opened →
            s.la.key.waiting = [] →
            (∀ f, moved f = { s with fu := { s.fu with inst := some { i with
              current := some f.id, edit := valueText f.kind (valueOf i.vals f.id) } } }) →
            (i.current = none → ends s [])
            ∧ (s.tor.nums.getD 35 0 = 0 → KeyLineQuiet s → ∀ fs : List Field,
              fs = s.formTemplate.fields.filter (fun f => f.kind.entered && !f.protect) →
              (fs.map Field.id).Nodup → ∀ f g,
              (∃ pre post, fs = pre ++ f :: g :: post) ∨ (fs.getLast? = some f ∧ fs.head? = some g) →
              (a = .fieldNext → i.current = some f.id → ends (moved g) [])
              ∧ (a = .fieldBack → i.current = some g.id → ends (moved f) [])))))
  ∧ ∀ (s : State) (evs rest : List KeyEvent) (code : KeyEvent → Byte) (ly : KeyEvent → Layer), Awake s →
    s.ks.kq = evs ++ rest → s.fu.inst = none → s.port.out.length + 6 * evs.length ≤ 128 →
    s.tor.nums.getD 32 0 = 0 → s.tor.nums.getD 0 0 = 0 → s.tor.nums.getD 31 0 = 1 →
    (∀ e, ly e = if e.mods.func then .func else if e.mods.ctrl then .ctrl
      else if e.mods.shift then .shift else .base) →
    (∀ e : KeyEvent, e ∈ evs → (s.kr.entry (ly e) e.key).kind = .code (code e)) →
    (rest = [] ∨ ∃ (e : KeyEvent) (more : List KeyEvent) (n : Nat), rest = e :: more ∧ (s.kr.entry (ly e) e.key).kind = .action (.openForm n)
      ∧ s.la.key.waiting ≠ []) →
    exec .keyEventExamine s = .next ({ s with ks := { s.ks with
      kq := rest, kqOverrun := s.ks.kqOverrun && evs.isEmpty
      echoBegun := s.ks.echoBegun && evs.isEmpty } }.answered
      (evs.flatMap fun e : KeyEvent =>
        [0x40, 0x04, byteOf e.key, e.kind.byte, byteOf (ly e).num, code e]))

/-- LOAD_KEYMAP answers BUSY while LOADING or SAVING, RANGE for a bad payload, else replaces that
one entry and answers OK. (R162.) -/
def Obligations.LoadKeymapReplacesOneEntry : Prop :=
  ∀ (s : State) (p : List Byte), PortReady s → p.length ≤ 63 →
    (s.store.state ≠ .idle → exec (.loadKeymap p) s = .next (s.answered [0x04, 0x00]))
    ∧ (s.store.state = .idle →
      (p.length ≠ 4 ∨ 79 < (p.getD 0 0).toNat ∨ 3 < (p.getD 1 0).toNat
          ∨ (p.getD 2 0) ∉ ([0x00, 0x01, 0x02, 0x80, 0x81, 0x82] : List Byte)
          ∨ (p.getD 2 0 ∈ ([0x02, 0x82] : List Byte) ∧ ((p.getD 3 0).toNat = 0
              ∨ (p.getD 3 0).toNat = 0x0A ∨ (p.getD 3 0).toNat = 0x0B ∨ 0x17 < (p.getD 3 0).toNat)) →
        exec (.loadKeymap p) s = .next (s.answered [0x03, 0x00]))
      ∧ ∀ k l kind v : Byte, p = [k, l, kind, v] → k.toNat ≤ 79 → l.toNat ≤ 3 →
        kind ∈ ([0x00, 0x01, 0x02, 0x80, 0x81, 0x82] : List Byte) →
        (kind ∈ ([0x02, 0x82] : List Byte) →
          1 ≤ v.toNat ∧ v.toNat ≤ 0x17 ∧ v.toNat ≠ 0x0A ∧ v.toNat ≠ 0x0B) →
        s.kr.keymap.length = 320 → ∃ e : KeyEntry,
          exec (.loadKeymap p) s = .next ({ s with kr := { s.kr with
            keymap := s.kr.keymap.set (80 * l.toNat + k.toNat) e } }.answered [0x00, 0x00])
          ∧ e.rep = decide (0x80 ≤ kind.toNat)
          ∧ (kind.toNat % 0x80 = 0 → e.kind = .nothing)
          ∧ (kind.toNat % 0x80 = 1 → e.kind = .code v)
          ∧ (kind.toNat % 0x80 = 2 → ∃ a : Action, e.kind = .action a ∧ a.num = v.toNat)
          ∧ e.bytes = (kind, if kind.toNat % 0x80 = 0 then 0 else v))

/-- LINK_ORIGINATE and LINK_ANSWER answer BUSY in the wake window, STATE outside DOWN, else leave
DOWN in their role. That no level is held as a connection starts (the field level becomes none) is
the model's choice (log entry 15). (04 R74 (in part), 04 R69 (in part), 04 R71 (in part), 04 R76 (in
part), 11 R207 (in part).) -/
def Obligations.LinkStartTakesTheRole : Prop :=
  (∀ l : Link, l.bitsToFramer = decide (l.state = .online)
    ∧ l.receiverBand = match l.state with
      | .down => none
      | .listen => some (2150, 1950)
      | .answering => some (1150, 950)
      | _ => match l.role with
        | .originate => some (2150, 1950) | .answer => some (1150, 950) | .none => none)
  ∧ ∀ s : State, CommandReady s →
    (s.port.power = .waking →
      exec (.linkOriginate []) s = .next (s.answered [0x04, 0x00])
      ∧ exec (.linkAnswer []) s = .next (s.answered [0x04, 0x00]))
    ∧ (s.port.power = .run → s.link.state ≠ .down →
      exec (.linkOriginate []) s = .next (s.answered [0x02, 0x00])
      ∧ exec (.linkAnswer []) s = .next (s.answered [0x02, 0x00]))
    ∧ (s.port.power = .run → s.link.state = .down → ∀ rate,
      rate = (if s.tor.nums.getD 1 0 = 0 then 110 else if s.tor.nums.getD 1 0 = 1 then 150 else 300) →
      ∃ lo la : Link,
        lo = { s.link with
          state := .listen, role := .originate, rate := some rate
          connectWait := some (s.tor.nums.getD 15 0), level := none }
        ∧ la = { s.link with
          state := .answering, role := .answer, rate := some rate
          connectWait := some (s.tor.nums.getD 15 0), level := none }
        ∧ exec (.linkOriginate []) s
            = .next ({ s with link := lo }.answered [0x00, 0x00, 0x44, 0x02, 0x01, 0x00])
        ∧ exec (.linkAnswer []) s
            = .next ({ s with link := la }.answered [0x00, 0x00, 0x44, 0x02, 0x02, 0x00])
        ∧ lo.transmitterOn = false ∧ la.transmitterOn = true
        ∧ lo.role.band = (1150, 950) ∧ la.role.band = (2150, 1950))

/-- LINK_DROP answers OK in every link state and takes any state but DOWN to DOWN, with what R94
says done on the one event. The model's choices: no level is held in DOWN (log entry 15), and LINK
STATE stands ahead of HOLD CHANGE and the form's notices (log entry 20). (04 R93 (in part), 04 R94
(in part), 05 R113 (in part), 06 R131 (in part), 04 R85 (in part), 09 R186 (in part).) -/
def Obligations.LinkDropTakesTheLinkDown : Prop :=
  ∀ s : State, CommandReady s →
    (s.link.state = .down → exec (.linkDrop []) s = .next (s.answered [0x00, 0x00]))
    ∧ (s.link.state ≠ .down → ∀ (l : Link) (fr : Framer) (p : Parser),
      l = { s.link with
        state := .down, role := .none, connectWait := none, qualify := none, holdover := none
        breakSend := .none, spaceRun := none, breakPending := false, level := none
        gainPending := false
        gain := if s.link.gainPending = true ∧ s.tor.nums.getD 9 0 = 1
          then floor5 (clampInt 0 420 (s.tor.nums.getD 10 0)) else s.link.gain } →
      fr = { s.framer with
        rx := .suspended, flow := [], data := [], inFlight := none, paused := false
        farPaused := false } →
      p = (match s.dp with
        | .intro => .text | .args _ _ => .text | .replyWait _ => .text | q => q) →
      (s.link.state = .listen ∨ s.link.state = .answering
        ∨ ((s.link.state = .online ∨ s.link.state = .fade) ∧ s.la.far.cells = []
            ∧ s.fu.inst.map FormInst.phase ≠ some .reporting) →
        exec (.linkDrop []) s = .next ({ s with link := l, framer := fr, dp := p }.answered
          [0x00, 0x00, 0x44, 0x02, 0x00, 0x00]))
      ∧ (s.link.state = .qualify → ∃ t notices, exec (.linkDrop []) s = .next t
        ∧ t.link = l ∧ t.framer = fr ∧ t.dp = p ∧ t.pe.hold.linkTraining = false
        ∧ (50 ≤ s.pins.vsense → t.pe.hold = { s.pe.hold with linkTraining := false })
        ∧ t.port.out = s.port.out ++ [0x00, 0x00, 0x44, 0x02, 0x00, 0x00] ++ notices
        ∧ (s.pe.hold.linkTraining = true → ∃ more, notices
            = [0x4C, 0x01, { s.pe.hold with linkTraining := false }.byte] ++ more)
        ∧ t.la = s.la ∧ t.fu = s.fu ∧ t.tor = s.tor ∧ t.pq.entries = s.pq.entries)
      ∧ (s.link.state = .online ∨ s.link.state = .fade → ∃ t notices, exec (.linkDrop []) s = .next t
        ∧ t.link = l ∧ t.framer = fr ∧ t.dp = p ∧ t.la.far.cells = []
        ∧ t.fu.inst.map FormInst.phase ≠ some .reporting
        ∧ t.port.out = s.port.out ++ [0x00, 0x00, 0x44, 0x02, 0x00, 0x00] ++ notices
        ∧ ∀ i, s.fu.inst = some i → i.phase = .reporting → t.fu = { s.fu with inst := none }
          ∧ ∃ more, notices = more ++ [0x5B, 0x03, byteOf i.number] ++ bytes16 i.reportPos
              ++ [0x58, 0x04, 0x00, byteOf i.number, 0x05, 0x00])
      ∧ ∀ i, s.link.state = .online ∨ s.link.state = .fade → s.la.far.cells = [] →
        s.fu.inst = some i → i.phase = .reporting →
        exec (.linkDrop []) s = .next ({ s with
          link := l, framer := fr, dp := p, fu := { s.fu with inst := none } }.answered
          ([0x00, 0x00, 0x44, 0x02, 0x00, 0x00, 0x5B, 0x03, byteOf i.number] ++ bytes16 i.reportPos
            ++ [0x58, 0x04, 0x00, byteOf i.number, 0x05, 0x00])))

/-- SEND answers BUSY, STATE or FULL with nothing added, else adds its payload whole behind the last
data byte and answers OK. (R112.) -/
def Obligations.SendAddsItsBytesWhole : Prop :=
  ∀ (s : State) (p : List Byte), PortReady s → p.length ≤ 63 →
    (s.store.state.isLoading = true → exec (.send p) s = .next (s.answered [0x04, 0x00]))
    ∧ (s.store.state.isLoading = false →
      (s.link.state ≠ .online → exec (.send p) s = .next (s.answered [0x02, 0x00]))
      ∧ (s.link.state = .online →
        ((∃ r, s.dp = .replyWait r) ∨ 158 < s.framer.data.length + p.length →
          exec (.send p) s = .next (s.answered [0x01, 0x00]))
        ∧ ((∀ r, s.dp ≠ .replyWait r) → s.framer.data.length + p.length ≤ 158 →
          ∀ (sent : Framer → State) (bits : Byte → List Bool),
            (∀ fr, sent fr = { s with framer := fr }.answered [0x00, 0x00]) →
            bits = lineBits ⟨s.tor.nums.getD 2 0, s.tor.nums.getD 3 0, s.tor.nums.getD 4 0⟩ →
            (s.framer.inFlight ≠ none ∨ s.link.breakSend ≠ .none
                ∨ (s.framer.flow = [] ∧ (s.framer.farPaused = true ∨ s.framer.data ++ p = [])) →
              exec (.send p) s = .next (sent { s.framer with data := s.framer.data ++ p }))
            ∧ (s.framer.inFlight = none → s.link.breakSend = .none →
              (∀ b fl, s.framer.flow = b :: fl → exec (.send p) s = .next (sent { s.framer with
                flow := fl, data := s.framer.data ++ p, inFlight := some ⟨b, bits b⟩ }))
              ∧ (∀ b ds, s.framer.flow = [] → s.framer.farPaused = false → s.framer.data ++ p = b :: ds →
                exec (.send p) s = .next (sent { s.framer with
                  data := ds, inFlight := some ⟨b, bits b⟩ }))))))

/-- SEND_BREAK answers RANGE, STATE or OK by the tests of R92; the BREAK key is accepted in the last
case and discarded otherwise. (R92.) -/
def Obligations.SendBreakIsAcceptedOnceOnline : Prop :=
  ∀ (s : State) (p : List Byte), CommandReady s → p.length ≤ 63 →
    (p ≠ [] → exec (.sendBreak p) s = .next (s.answered [0x03, 0x00]))
    ∧ (s.link.state ≠ .online ∨ s.link.breakSend ≠ .none →
      exec (.sendBreak []) s = .next (s.answered [0x02, 0x00]) ∧ act .breakKey s = s)
    ∧ (s.link.state = .online → s.link.breakSend = .none → ∀ u : State,
      u = { s with link := { s.link with
        breakSend := if s.framer.inFlight = none then .sending else .waiting } } →
      exec (.sendBreak []) s = .next (u.answered [0x00, 0x00]) ∧ act .breakKey s = u)

/-- TRANSMIT_CHARACTER_END starts a waiting break or takes the next byte, flow codes first;
BREAK_SEND_END returns to mark. That TRANSMIT CHARACTER END without a character in flight and BREAK
SEND END without a break being sent change nothing is the model's choice (log entry 2). (04 R91 (in
part), 05 R97 (in part), 05 R109 (in part), 04 R80 (in part).) -/
def Obligations.TransmitterTakesTheNextByte : Prop :=
  (∀ (i : Instr) (s u : State), Awake s →
    (i = .transmitCharacterEnd ∧ s.framer.inFlight ≠ none ∧ s.link.breakSend = .none ∧ u = s
      ∨ i = .breakSendEnd ∧ s.framer.inFlight = none ∧ s.link.breakSend = .sending
          ∧ u = { s with link := { s.link with breakSend := .none } }) →
    (s.link.state ≠ .online ∨ (s.framer.flow = [] ∧ (s.framer.data = [] ∨ s.framer.farPaused = true)) →
      exec i s = .next { u with framer := { s.framer with inFlight := none } })
    ∧ (s.link.state = .online → ∀ b fl, s.framer.flow = b :: fl → ∃ bits,
        exec i s = .next { u with framer := { s.framer with flow := fl, inFlight := some ⟨b, bits⟩ } })
    ∧ (s.link.state = .online → s.framer.flow = [] → s.framer.farPaused = false →
        ∀ b ds, s.framer.data = b :: ds → 7 ≤ s.tor.nums.getD 2 0 → s.tor.nums.getD 2 0 ≤ 8 →
        1 ≤ s.tor.nums.getD 4 0 → s.tor.nums.getD 4 0 ≤ 2 → ∃ bits,
        exec i s = .next { u with framer := { s.framer with data := ds, inFlight := some ⟨b, bits⟩ } }
        ∧ bits.head? = some false
        ∧ (∀ k : Nat, (k : Int) < s.tor.nums.getD 2 0 → bits[k + 1]? = some (b.getLsbD k))
        ∧ (bits.length : Int) = 1 + s.tor.nums.getD 2 0
            + (if s.tor.nums.getD 3 0 = 0 then 0 else 1) + s.tor.nums.getD 4 0
        ∧ (∀ k : Nat, (k : Int) < s.tor.nums.getD 4 0 → bits.reverse[k]? = some true)
        ∧ (s.tor.nums.getD 3 0 = 1 → bits.count true % 2 = (s.tor.nums.getD 4 0 % 2).toNat)))
  ∧ (∀ s : State, Awake s → s.framer.inFlight ≠ none → s.link.breakSend = .waiting →
      exec .transmitCharacterEnd s = .next { s with
        framer := { s.framer with inFlight := none }, link := { s.link with breakSend := .sending } })
  ∧ (∀ s : State, Awake s → s.framer.inFlight = none → exec .transmitCharacterEnd s = .next s)
  ∧ (∀ s : State, Awake s → s.link.breakSend ≠ .sending → exec .breakSendEnd s = .next s)

/-- CARRIER_PRESENT and CARRIER_ABSENT take LISTEN and ANSWERING to QUALIFY and back, and ONLINE to
FADE and back. The model's choices: both rows change nothing in DOWN (log entries 2 and 30), LINK
STATE stands ahead of HOLD CHANGE (log entry 20), the row that a HELD engine opens reads VSENSE as
it stands (log entry 7), and a measurement is due while no temperature has been measured (log entry
28). Left out: a printed row with no measurement due. (04 R73 (in part), 04 R77 (in part), 04 R78
(in part), 04 R81 (in part), 04 R82 (in part), 03 R45 (in part), 03 R39 (in part).) -/
def Obligations.CarrierMovesTheLink : Prop :=
  ∀ (s : State) (lv : Int), Awake s → -600 ≤ lv → lv ≤ 0 → s.port.out.length ≤ 90 →
    (s.link.state = .down → exec (.carrierPresent lv) s = .next s ∧ exec (.carrierAbsent lv) s = .next s)
    ∧ (s.tor.nums.getD 12 0 ≤ lv →
      (s.link.state = .listen ∨ s.link.state = .answering → s.pe.hold.linkTraining = false →
        s.pe.engine ≠ .idle ∨ s.pe.directFeed = none →
        exec (.carrierPresent lv) s = .next ({ s with
          link := { s.link with
            state := .qualify, level := some lv, qualify := some (s.tor.nums.getD 13 0)
            gain := if s.tor.nums.getD 9 0 = 0 then floor5 (clampInt 0 420 (-120 - lv)) else s.link.gain }
          pe :=
            if s.pe.engine = EngineState.idle then { s.pe with
              hold := { s.pe.hold with linkTraining := true }, engine := .held, history := 0
              forced := true }
            else { s.pe with hold := { s.pe.hold with linkTraining := true } } }.answered
            [0x44, 0x02, 0x03, 0x02, 0x4C, 0x01, { s.pe.hold with linkTraining := true }.byte]))
      ∧ (s.link.state = .fade → ∃ t, exec (.carrierPresent lv) s = .next t
          ∧ t = { s with link := t.link, framer := t.framer, port := t.port }
          ∧ t.link = { s.link with state := .online, level := some lv, holdover := none }
          ∧ t.framer.rx = .waitMark ∧ t.framer.rxf = s.framer.rxf
          ∧ (s.framer.flow = [] → s.framer.data = [] →
              t.framer = { s.framer with rx := .waitMark })
          ∧ t.port = { s.port with out := s.port.out ++ [0x44, 0x02, 0x04, 0x02] })
      ∧ (s.link.state = .qualify ∨ s.link.state = .online →
        exec (.carrierPresent lv) s = .next { s with link := { s.link with level := some lv } }))
    ∧ (lv < s.tor.nums.getD 12 0 →
      (s.link.state = .qualify → s.pe.hold.linkTraining = true → ∀ (u : State) (h : HoldSet),
        h = { s.pe.hold with linkTraining := false } →
        u = { s with
          link := { s.link with
            state := if s.link.role = Role.answer then .answering else .listen
            level := some lv, qualify := none }
          pe := { s.pe with hold := h } } →
        ∀ ends : State → List Byte → Prop,
        (∀ v bytes, ends v bytes ↔ exec (.carrierAbsent lv) s = .next (v.answered
          ([0x44, 0x02, if s.link.role = Role.answer then 0x02 else 0x01, 0x02, 0x4C, 0x01, h.byte]
            ++ bytes))) →
        (s.pe.engine ≠ .held ∨ h ≠ noHold → ends u [])
        ∧ (s.pe.engine = .held → h = noHold → s.pe.directFeed = none → HeldEngineDecides u ends))
      ∧ (s.link.state = .online →
        exec (.carrierAbsent lv) s = .next ({ s with
          link := { s.link with
            state := .fade, level := some lv, holdover := some (s.tor.nums.getD 14 0)
            spaceRun := none, breakPending := false, gainPending := false
            gain := if s.link.gainPending = true ∧ s.tor.nums.getD 9 0 = 1
              then floor5 (clampInt 0 420 (s.tor.nums.getD 10 0)) else s.link.gain }
          framer := { s.framer with rx := .suspended } }.answered [0x44, 0x02, 0x05, 0x02]))
      ∧ (s.link.state = .listen ∨ s.link.state = .answering ∨ s.link.state = .fade →
        exec (.carrierAbsent lv) s = .next { s with link := { s.link with level := some lv } }))

/-- Connect-wait expiry ends in DOWN with NO CARRIER, qualify expiry in ONLINE, holdover expiry in
DOWN without it. The model's choices: LINK STATE and NO CARRIER stand ahead of HOLD CHANGE and the
form's notices (log entry 20), no level is held in DOWN (log entry 15), and an expiry of a timer
that does not run changes nothing (log entry 2). (04 R76 (in part), 04 R79 (in part), 04 R82 (in
part), 04 R94 (in part), 04 R72 (in part), 09 R186 (in part).) -/
def Obligations.LinkTimersExpire : Prop :=
  (∀ s : State, Awake s →
    (s.link.connectWait = none ∨ s.link.state = .down ∨ s.link.state = .online ∨ s.link.state = .fade →
      exec .connectWaitExpiry s = .next s)
    ∧ (s.link.qualify = none ∨ s.link.state ≠ .qualify → exec .qualifyExpiry s = .next s)
    ∧ (s.link.holdover = none ∨ s.link.state ≠ .fade → exec .holdoverExpiry s = .next s))
  ∧ ∀ s : State, Awake s → s.port.out.length ≤ 90 → s.link.gainPending = false →
    (s.link.connectWait ≠ none →
      s.link.state = .listen ∨ s.link.state = .answering ∨ s.link.state = .qualify →
      ∃ t notices, exec .connectWaitExpiry s = .next t
        ∧ t.link = { s.link with
            state := .down, role := .none, connectWait := none, qualify := none, holdover := none
            breakSend := .none, spaceRun := none, breakPending := false, level := none }
        ∧ t.framer = { s.framer with
            rx := .suspended, flow := [], data := [], inFlight := none, paused := false
            farPaused := false }
        ∧ t.port.out = s.port.out ++ [0x44, 0x02, 0x00, 0x03, 0x45, 0x00] ++ notices
        ∧ (s.link.state ≠ .qualify → notices = [] ∧ t.pe = s.pe)
        ∧ (s.link.state = .qualify → t.pe.hold.linkTraining = false
          ∧ (50 ≤ s.pins.vsense → t.pe.hold = { s.pe.hold with linkTraining := false }))
        ∧ t.la = s.la ∧ t.fu = s.fu ∧ t.pq.entries = s.pq.entries)
    ∧ (s.link.qualify ≠ none → s.link.state = .qualify → ∃ t notices,
        exec .qualifyExpiry s = .next t
        ∧ t.link = { s.link with state := .online, connectWait := none, qualify := none, errCount := 0 }
        ∧ t.framer.rx = .waitMark ∧ t.framer.rxf = s.framer.rxf
        ∧ t.pe.hold.linkTraining = false
        ∧ (50 ≤ s.pins.vsense → t.pe.hold = { s.pe.hold with linkTraining := false })
        ∧ t.port.out = s.port.out ++ [0x44, 0x02, 0x04, 0x02] ++ notices
        ∧ t.la = s.la ∧ t.fu = s.fu ∧ t.dp = s.dp ∧ t.pq.entries = s.pq.entries)
    ∧ (s.link.holdover ≠ none → s.link.state = .fade → ∃ t notices,
        exec .holdoverExpiry s = .next t
        ∧ t.link = { s.link with
            state := .down, role := .none, connectWait := none, qualify := none, holdover := none
            breakSend := .none, spaceRun := none, breakPending := false, level := none }
        ∧ t.framer.flow = [] ∧ t.framer.data = [] ∧ t.framer.rxf = s.framer.rxf
        ∧ t.la.far.cells = []
        ∧ t.port.out = s.port.out ++ [0x44, 0x02, 0x00, 0x02] ++ notices
        ∧ (s.la.far.cells = [] → t.la = s.la ∧ t.pq = s.pq ∧ t.pe = s.pe
            ∧ (s.fu.inst.map FormInst.phase ≠ some .reporting → notices = [] ∧ t.fu = s.fu))
        ∧ ∀ i, s.fu.inst = some i → i.phase = .reporting → t.fu = { s.fu with inst := none }
          ∧ ∃ more, (s.la.far.cells = [] → more = [])
            ∧ notices = more ++ [0x5B, 0x03, byteOf i.number] ++ bytes16 i.reportPos
              ++ [0x58, 0x04, 0x00, byteOf i.number, 0x05, 0x00])

/-- CHARACTER_RECEIVED gives the code its error kind, acts on far pause, joins RXF or overruns, and
steps the gain. The model's choices: CHARACTER RECEIVED outside ASSEMBLING changes nothing (log
entry 2), and the level at the character's end is held as L but makes no carrier event by itself,
also below field 13 (log entry 30). (05 R98 (in part), 05 R99 (in part), 05 R100 (in part), 05 R101
(in part), 05 R102 (in part), 05 R104 (in part), 05 R106 (in part), 05 R109 (in part), 04 R84 (in
part), 04 R85 (in part), 04 R88 (in part), 04 R95 (in part).) -/
def Obligations.ReceivedCharacterEntersRxf : Prop :=
  (∀ (s : State) (b : Byte) (par stop : Bool) (lv : Int), Awake s →
    (∀ f, s.framer.rx ≠ .assembling f) → exec (.characterReceived b par stop lv) s = .next s)
  ∧ ∀ (s : State) (b : Byte) (par stop : Bool) (lv : Int) (f : Framing) (code : Byte) (err : ErrKind),
    Awake s → s.framer.rx = .assembling f → -600 ≤ lv → lv ≤ 0 → s.port.out.length ≤ 126 →
    code = (if f.dataBits = 7 then b &&& 0x7F else b) →
    err = (if stop = false then .framing
      else if f.parity ≠ 0 ∧ par ≠ parityOf f.parity (dataBitsOf f.dataBits.toNat code) then .parity
      else .none) →
    ∃ t, exec (.characterReceived b par stop lv) s = .next t
      ∧ t = { s with link := t.link, framer := t.framer, port := t.port }
      ∧ t.framer.rx = (if stop then .ready else .waitMark)
      ∧ t.link = { s.link with
          level := some lv, gain := t.link.gain, gainPending := false, errCount := t.link.errCount
          spaceRun := if stop then none else some (s.link.spaceRun.getD f) }
      ∧ (s.link.gainPending = true → t.link.gain = if s.tor.nums.getD 9 0 = 1
          then floor5 (clampInt 0 420 (s.tor.nums.getD 10 0)) else s.link.gain)
      ∧ (s.link.gainPending = false → t.link.gain =
          if s.tor.nums.getD 9 0 ≠ 0 then s.link.gain
          else if -90 < lv + s.link.gain then clampInt 0 420 (s.link.gain - 5)
          else if lv + s.link.gain < -150 then clampInt 0 420 (s.link.gain + 5)
          else s.link.gain)
      ∧ ∀ far : Bool, far = (decide (s.tor.nums.getD 8 0 = 1) && decide (err = .none)
          && (decide (code = byteOf (s.tor.nums.getD 6 0).toNat)
            || decide (code = byteOf (s.tor.nums.getD 7 0).toNat))) →
        (far = true → t.framer.rxf = s.framer.rxf ∧ t.link.errCount = s.link.errCount
          ∧ t.port = s.port ∧ t.framer.farPaused =
            (if code = byteOf (s.tor.nums.getD 6 0).toNat ∧ code = byteOf (s.tor.nums.getD 7 0).toNat
              then !s.framer.farPaused
              else decide (code = byteOf (s.tor.nums.getD 6 0).toNat))
          ∧ (s.framer.inFlight ≠ none ∨ t.framer.farPaused = true ∧ s.framer.flow = [] →
              t.framer = { s.framer with rx := t.framer.rx, farPaused := t.framer.farPaused }))
        ∧ (far = false → s.framer.rxf.length < 64 →
          t.framer.rxf = s.framer.rxf ++ [⟨code, err⟩] ∧ t.port = s.port
          ∧ t.framer.farPaused = s.framer.farPaused
          ∧ (s.link.errCount ≤ 99 →
              t.link.errCount = if err = .none then s.link.errCount else min 99 (s.link.errCount + 1))
          ∧ ∀ (pauses : Bool) (flow : List Byte),
            pauses = (decide (s.tor.nums.getD 5 0 = 1) && !s.framer.paused
              && decide (47 ≤ s.framer.rxf.length)
              && (decide (s.link.state = .online) || decide (s.link.state = .fade))) →
            flow = (if 2 ≤ s.framer.flow.length then s.framer.flow.drop (s.framer.flow.length - 1)
              else s.framer.flow) ++ [byteOf (s.tor.nums.getD 6 0).toNat] →
            (pauses = false → t.framer = { s.framer with
              rx := t.framer.rx, rxf := s.framer.rxf ++ [⟨code, err⟩] })
            ∧ (pauses = true → s.link.state ≠ .online ∨ s.framer.inFlight ≠ none
                ∨ s.link.breakSend ≠ .none →
              t.framer = { s.framer with
                rx := t.framer.rx, rxf := s.framer.rxf ++ [⟨code, err⟩], paused := true
                flow := flow })
            ∧ (pauses = true → s.link.state = .online → s.framer.inFlight = none →
                s.link.breakSend = .none → ∀ head fl, flow = head :: fl →
              t.framer = { s.framer with
                rx := t.framer.rx, rxf := s.framer.rxf ++ [⟨code, err⟩], paused := true
                flow := fl
                inFlight := some ⟨head, lineBits
                  ⟨s.tor.nums.getD 2 0, s.tor.nums.getD 3 0, s.tor.nums.getD 4 0⟩ head⟩ }))
        ∧ (far = false → 64 ≤ s.framer.rxf.length →
          t.framer = { s.framer with rx := t.framer.rx, overrun := true }
          ∧ t.link.errCount = s.link.errCount
          ∧ t.port = { s.port with
              out := s.port.out ++ if s.framer.overrun then [] else [0x48, 0x00] })

/-- START_BIT and MARK_DECISION frame and follow a space run; BREAK_PENDING, RECEIVED_BREAK,
DISCONNECT_SPACE end it. The model's choices: these rows outside ONLINE, and BREAK PENDING, RECEIVED
BREAK and DISCONNECT SPACE without the run they need, change nothing (log entry 2), LINK STATE
stands ahead of the other blocks' notices (log entry 20), and START BIT carries whether the bit is
still space at its middle (log entry 30). (05 R98 (in part), 04 R88 (in part), 04 R89 (in part), 04
R90 (in part), 01 R20 (in part), 05 R103 (in part), 09 R186 (in part).) -/
def Obligations.SpaceRunsMakeBreaksAndDisconnects : Prop :=
  ∀ s : State, Awake s →
    (s.link.state ≠ .online → (∀ b, exec (.startBit b) s = .next s) ∧ exec .markDecision s = .next s
      ∧ exec .breakPending s = .next s ∧ exec .receivedBreak s = .next s
      ∧ exec .disconnectSpace s = .next s)
    ∧ (s.link.spaceRun = none → exec .breakPending s = .next s ∧ exec .disconnectSpace s = .next s)
    ∧ (s.link.breakPending = false → exec .receivedBreak s = .next s)
    ∧ (s.link.state = .online →
      (s.framer.rx = .ready → s.link.spaceRun = none → ∀ f : Framing,
        f = ⟨s.tor.nums.getD 2 0, s.tor.nums.getD 3 0, s.tor.nums.getD 4 0⟩ →
        exec (.startBit true) s = .next { s with
          framer := { s.framer with rx := .assembling f }, link := { s.link with spaceRun := some f } }
        ∧ exec (.startBit false) s = .next s)
      ∧ (s.link.breakPending = false → exec .markDecision s = .next { s with
          framer := { s.framer with rx := if s.framer.rx = .waitMark then .ready else s.framer.rx }
          link := { s.link with spaceRun := none } })
      ∧ (s.link.spaceRun ≠ none → exec .breakPending s = .next { s with
          framer := { s.framer with rx := .waitMark }, link := { s.link with breakPending := true } })
      ∧ (s.link.breakPending = true → s.framer.paused = false → s.pq.inPrint = false →
          s.pq.pendingBlock = none → (s.pq.waitList = [] ∨ s.pq.waitList = [.far]) →
          s.port.out.length ≤ 126 → exec .receivedBreak s = .next ({ s with
            link := { s.link with spaceRun := none, breakPending := false }
            framer := { s.framer with rx := .ready, rxf := [], overrun := false }
            dp := .text
            la := { s.la with far := ⟨[], 0, false, false, none, []⟩, farHoldMs := 0 }
            pq := { s.pq with
              entries := s.pq.entries.filter (fun e => e.source ≠ Source.far), waitList := [] } }.answered
              [0x46, 0x00]))
      ∧ (s.link.spaceRun ≠ none → s.port.out.length ≤ 90 → ∃ t notices,
          exec .disconnectSpace s = .next t
          ∧ t.link.state = .down ∧ t.link.role = .none ∧ t.link.spaceRun = none
          ∧ t.link.breakPending = false ∧ t.framer.rxf = s.framer.rxf ∧ t.framer.flow = []
          ∧ t.framer.data = [] ∧ t.framer.inFlight = none
          ∧ t.port.out = s.port.out ++ [0x44, 0x02, 0x00, 0x04] ++ notices
          ∧ ∀ i, s.fu.inst = some i → i.phase = .reporting → t.fu = { s.fu with inst := none }
            ∧ ∃ more, notices = more ++ [0x5B, 0x03, byteOf i.number] ++ bytes16 i.reportPos
                ++ [0x58, 0x04, 0x00, byteOf i.number, 0x05, 0x00]))

/-- DIRECTIVE_BYTE_TAKE takes the RXF head as an introducer, text, a letter or an argument and
carries a whole directive out; DIRECTIVE_TIMEOUT ends one. The model's choices: DIRECTIVE TIMEOUT
outside INTRO and ARGS and DIRECTIVE BYTE TAKE with an empty RXF change nothing (log entry 2), and a
reply outside ONLINE and FADE is discarded (log entry 31). Left out: a commit or append in IDLE, and
a prompt (field 36 = 1). (06 R116 to R119 (in part), 06 R121 to R124 (in part), 06 R125 (in part),
06 R126 to R129 (in part), 01 R13, R14 and R15 (in part), 09 R171 (in part), 09 R177 (in part), 09
R181 (in part), 09 R184 (in part), 09 R187 (in part), 10 R195 (in part), 05 R110 (in part).) -/
def Obligations.DirectiveParserTakesOneEntry : Prop :=
  (∀ s : State, Awake s →
    (s.framer.rxf = [] ∨ (∃ c e r, s.dp = .offer c e r) ∨ (∃ w, s.dp = .storeWait w)
        ∨ (∃ r, s.dp = .replyWait r) → exec .directiveByteTake s = .next s)
    ∧ (s.dp = .intro ∨ (∃ d bs, s.dp = .args d bs) →
        exec .directiveTimeout s = .next { s with dp := .text })
    ∧ (s.dp ≠ .intro → (∀ d bs, s.dp ≠ .args d bs) → exec .directiveTimeout s = .next s))
  ∧ ∀ (s u : State) (b : Byte) (err : ErrKind) (rest : List RxEntry), Awake s →
    s.framer.paused = false → s.framer.rxf = ⟨b, err⟩ :: rest →
    u = { s with framer := { s.framer with
      rxf := rest, overrun := s.framer.overrun && decide (48 ≤ rest.length) } } →
    ∀ (v : State) (ends : State → List Byte → Prop) (far : OpenLine → State),
    v = { u with dp := .text } →
    (∀ w bytes, ends w bytes ↔ (bytes = [] ∨ s.port.out.length ≤ 90 →
      exec .directiveByteTake s = .next (w.answered bytes))) →
    (∀ l, far l = { v with la := { s.la with farHoldMs := 0, far := l } }) →
    (s.dp = .text →
      (b = 0x1C → err = .none → ends { u with dp := .intro } [])
      ∧ (b ≠ 0x1C ∨ err ≠ .none → s.la.far.waiting ≠ [] → ends { s with dp := .offer b err true } [])
      ∧ (err ≠ .none ∨ (0x20 ≤ b.toNat ∧ b.toNat ≠ 0x7F) → s.la.far = emptyLine →
        ends (far ⟨[⟨0, ⟨b, false, false, decide (err ≠ .none)⟩⟩], 1, false, false,
          some (if s.tor.nums.getD 17 0 = 0 then .std else .cond), []⟩) [])
      ∧ (err = .none → s.la.far.waiting = [] → ∀ (l : OpenLine) (font : Font) (e : Entry), l = s.la.far →
          font = l.font.getD (if s.tor.nums.getD 17 0 = 0 then .std else .cond) →
          e = ⟨.far, .text font (commitCells 0 l.cells) false (s.tor.nums.getD 18 0).toNat, false, false⟩ →
        (b = 0x07 → ends (far l) [0x5C, 0x00])
        ∧ (b = 0x08 → ends (far { l with column := l.column - 1 }) [])
        ∧ (b = 0x09 → ∀ tab, tab = min ((l.column / 8 + 1) * 8) (if font = .std then 32 else 48) →
          ends (far { l with column := tab }) [])
        ∧ (b = 0x0D → ends (far { l with column := 0 }) [])
        ∧ (b = 0x0E ∨ b = 0x0F → ends (far { l with double := decide (b = 0x0E) }) [])
        ∧ (b = 0x16 ∨ b = 0x17 → ends (far { l with underline := decide (b = 0x16) }) [])
        ∧ ((b.toNat < 0x20 ∨ b = 0x7F) → b ∉ ([0x1C, 0x07, 0x08, 0x09, 0x0A, 0x0C, 0x0D, 0x0E, 0x0F, 0x16,
              0x17] : List Byte) → ends (far l) [])
        ∧ (b = 0x0A ∨ (b = 0x0C ∧ l.cells ≠ []) → ∀ es : List Entry,
            es = e :: (if b = 0x0C then [⟨.far, .feed 96, false, false⟩] else []) →
          (es.length + s.pq.entries.length ≤ 40 → s.pq.pendingBlock = none → s.pq.waitList = [] →
            s.pe.engine ≠ .idle →
            ends { (far emptyLine) with pq := { s.pq with entries := s.pq.entries ++ es } } [])
          ∧ (40 < es.length + s.pq.entries.length ∨ s.pq.pendingBlock ≠ none ∨ s.pq.waitList ≠ [] →
            ends { (far { emptyLine with waiting := es }) with
              pq := { s.pq with waitList := s.pq.waitList ++ [.far] } } []))))
    ∧ ((s.dp = .intro ∨ ∃ d bs, s.dp = .args d bs) →
      (err ≠ .none → exec .directiveByteTake s = .next { u with dp := .text })
      ∧ (err = .none → b = 0x1C → exec .directiveByteTake s = .next { u with dp := .intro }))
    ∧ (s.dp = .intro → err = .none →
      (b ∉ ([0x1C, 0x4F, 0x51, 0x41, 0x4B, 0x46, 0x56, 0x47, 0x43, 0x58, 0x55, 0x57, 0x4C] : List Byte) →
        exec .directiveByteTake s = .next { u with dp := .text })
      ∧ (b = 0x4F → exec .directiveByteTake s = .next { u with dp := .args .o [] })
      ∧ (b = 0x4B → exec .directiveByteTake s = .next { u with dp := .args .k [] })
      ∧ (∀ x d, (x, d) ∈ [((0x46 : Byte), Directive.f), (0x56, .v), (0x47, .g), (0x55, .u), (0x57, .w)] →
          b = x → ends { u with dp := .args d [] } [])
      ∧ (b = 0x43 → CommitIsTaken 2 v ends)
      ∧ (b = 0x58 → CancelIsTaken 2 v ends)
      ∧ (b = 0x4C → (s.la.far.cells = [] → ends v [])
        ∧ (s.la.far.cells ≠ [] → s.pq.entries.length ≤ 39 → s.pq.pendingBlock = none →
            s.pq.waitList = [] → s.pe.engine ≠ .idle → ends { v with
              la := { s.la with farHoldMs := 0, far := { emptyLine with waiting := s.la.far.waiting } }
              pq := { s.pq with entries := s.pq.entries ++ [⟨.far,
                .text (s.la.far.font.getD (if s.tor.nums.getD 17 0 = 0 then .std else .cond))
                  (commitCells 0 s.la.far.cells) false (s.tor.nums.getD 18 0).toNat, false, false⟩] } } [])))
    ∧ (∀ replies : List Byte → Prop,
      (∀ r, replies r ↔ (s.link.state ≠ .online → s.link.state ≠ .fade → ends v [])
        ∧ (s.link.state = .fade ∨ (s.link.state = .online ∧ s.framer.inFlight ≠ none) →
          s.framer.data.length + r.length ≤ 158 →
          ends { v with framer := { v.framer with data := s.framer.data ++ r } } [])
        ∧ (s.link.state = .online ∨ s.link.state = .fade → 158 < s.framer.data.length + r.length →
          ends { u with dp := .replyWait r } [])) →
      (s.dp = .intro → err = .none → b = 0x51 → ∀ f : Byte,
        (s.pe.engine, f) ∈ [(EngineState.idle, 0x49#8), (.printing, 0x50), (.feeding, 0x46), (.held, 0x48)] →
        ∀ g : Byte, (s.fu.inst.map FormInst.phase, g) ∈ [((none : Option FormState), 0x43#8),
          (some .closed, 0x43), (some .opened, 0x4F), (some .pending, 0x57), (some .reporting, 0x52)] →
        replies ([0x1C, 0x71, f] ++ twoDigits s.pq.entries.length
          ++ [if s.tor.nums.getD 32 0 = 1 then g + 0x20 else g]
          ++ twoDigits s.link.errCount ++ [0x0D]))
      ∧ (s.dp = .intro → err = .none → b = 0x41 → replies ([0x1C, 0x61] ++ s.tor.answerback ++ [0x0D]))
      ∧ ∀ d1 id, s.dp = .args .g [d1] → err = .none → isDigit d1 = true → isDigit b = true →
        id = 10 * digitVal d1 + digitVal b → 1 ≤ id → id ≤ 16 →
        (s.fu.inst = none ∨ s.formTemplate.field? id = none → replies [0x1C, 0x6E, d1, b, 0x0D])
        ∧ ∀ i f, s.fu.inst = some i → s.formTemplate.field? id = some f →
          replies ([0x1C, 0x67, d1, b] ++ valueText f.kind (valueOf i.vals f.id) ++ [0x0D]))
    ∧ (err = .none →
      (s.dp = .args .f [] → ∀ n, 1 ≤ n → n ≤ 8 → b = byteOf (0x30 + n) → OpenIsTaken 2 n v ends)
      ∧ (∀ on : Bool, b = (if on then 0x31 else 0x30) →
        (s.dp = .args .u [] →
          (s.la.far.waiting = [] → ends (far { s.la.far with underline := on }) [])
          ∧ (s.la.far.waiting ≠ [] → ends { u with dp := .offer (if on then 0x16 else 0x17) .none false } []))
        ∧ (s.dp = .args .w [] →
          (s.la.far.waiting = [] → ends (far { s.la.far with double := on }) [])
          ∧ (s.la.far.waiting ≠ [] → ends { u with dp := .offer (if on then 0x0E else 0x0F) .none false } []))
        ∧ (s.dp = .args .k [] → s.store.state = .idle →
          (s.tor.farSet.getLsbD 32 = false → ends v [0x51, 0x03, 0x21, 0x00, b])
          ∧ (s.tor.farSet.getLsbD 32 = true → s.ks.kq = [] →
            ends { v with tor := { s.tor with nums := s.tor.nums.set 32 (if on then 1 else 0) } }
              [0x50, 0x03, 0x21, 0x00, if on then 0x01 else 0x00])))
      ∧ ∀ d1 d2 cs id, s.dp = .args .v (d1 :: d2 :: cs) → b = 0x3B → cs.length ≤ 35 →
        id = 10 * digitVal d1 + digitVal d2 →
        ((∀ i, s.fu.inst = some i → i.phase ≠ .opened) → ends v [])
        ∧ ∀ i, s.fu.inst = some i → i.phase = .opened →
          (s.formTemplate.field? id = none → ends v [])
          ∧ ∀ f, s.formTemplate.field? id = some f →
            (f.kind.entered = false ∨ parseWritten f.kind f.width cs = none → ends v [])
            ∧ ∀ x, f.kind.entered = true → parseWritten f.kind f.width cs = some x →
              f.id ∈ i.vals.map FieldVal.id → fieldsApart s.formTemplate.fields = true → ∃ j : FormInst,
              ends { v with fu := { s.fu with inst := some j } } [0x54, 0x02, byteOf f.id, 0x02]
              ∧ j = { i with
                  vals := j.vals, total := j.total, tax := j.tax, grand := j.grand
                  edit := if i.current = some f.id then valueText f.kind x else i.edit }
              ∧ valueOf j.vals f.id = x ∧ writerOf j.vals f.id = .far
              ∧ ∀ g, s.formTemplate.field? g.id = some g → g.kind.entered = true → g.id ≠ f.id →
                  valueOf j.vals g.id = valueOf i.vals g.id
                  ∧ writerOf j.vals g.id = writerOf i.vals g.id)
    ∧ (∀ d bs, s.dp = .args d bs → err = .none → b ≠ 0x1C → 38 ≤ bs.length →
        exec .directiveByteTake s = .next { u with dp := .text })
    ∧ (∀ d1, s.dp = .args .o [] → err = .none → d1 = b → isDigit d1 = true →
        exec .directiveByteTake s = .next { u with dp := .args .o [d1] })

/-- REPLY_ADD adds a waiting reply whole when it fits; REPORT_BYTE_ADD adds one byte and closes the
form behind the last. That REPLY ADD with none waiting and REPORT BYTE ADD without a REPORTING form
change nothing is the model's choice (log entry 2). Left out: no character in flight, where the
transmitter takes the next byte at once. (06 R126 (in part), 09 R185 (in part), 05 R110 (in part),
05 R111 (in part).) -/
def Obligations.RepliesAndReportsJoinTxqWhole : Prop :=
  ∀ s : State, Awake s → s.framer.inFlight ≠ none → s.port.out.length ≤ 122 →
    (∀ r, s.dp = .replyWait r →
      (s.link.state = .online ∨ s.link.state = .fade → s.framer.data.length + r.length ≤ 158 →
        exec .replyAdd s = .next { s with
          dp := .text, framer := { s.framer with data := s.framer.data ++ r } })
      ∧ (158 < s.framer.data.length + r.length → exec .replyAdd s = .next s)
      ∧ exec .reportByteAdd s = .next s)
    ∧ ((∀ r, s.dp ≠ .replyWait r) → exec .replyAdd s = .next s)
    ∧ (s.fu.inst.map FormInst.phase ≠ some .reporting ∨ 158 ≤ s.framer.data.length
        ∨ (s.link.state ≠ .online ∧ s.link.state ≠ .fade) → exec .reportByteAdd s = .next s)
    ∧ ∀ i b rest, s.fu.inst = some i → i.phase = .reporting → i.report.drop i.reportPos = b :: rest →
      s.link.state = .online ∨ s.link.state = .fade → (∀ r, s.dp ≠ .replyWait r) →
      s.framer.data.length < 158 →
      (rest ≠ [] → exec .reportByteAdd s = .next { s with
          framer := { s.framer with data := s.framer.data ++ [b] }
          fu := { s.fu with inst := some { i with reportPos := i.reportPos + 1 } } })
      ∧ (rest = [] → exec .reportByteAdd s = .next ({ s with
          framer := { s.framer with data := s.framer.data ++ [b] }
          fu := { s.fu with inst := none } }.answered [0x58, 0x04, 0x00, byteOf i.number, 0x04, 0x00]))

/-- LOAD_FORM takes its segments and installs the image decoded, just when it keeps R164;
DELETE_FORM empties the slot; each refuses in order. That a template keeps its image bytes is the
model's (log entry 26). (09 R164 (in part), 09 R165 (in part), 09 R166 (in part), 09 R167 (in part),
09 R168 (in part).) -/
def Obligations.LoadFormAndDeleteForm : Prop :=
  (∀ (s : State) (p : List Byte), PortReady s → p.length ≤ 63 →
      (s.store.state ≠ .idle → exec (.loadForm p) s = .next (s.answered [0x04, 0x00]))
      ∧ (s.store.state = .idle →
        (p.length < 2 ∨ (p.getD 0 0).toNat = 0 ∨ 8 < (p.getD 0 0).toNat
            ∨ p.getD 1 0 ∉ ([0x00, 0x01, 0x80, 0x81] : List Byte) →
          exec (.loadForm p) s = .next (s.answered [0x03, 0x00]))
        ∧ ∀ (n c : Byte) (bs : List Byte), p = n :: c :: bs → 1 ≤ n.toNat → n.toNat ≤ 8 →
          (c ∈ ([0x01, 0x81] : List Byte) → (∀ b, s.fu.loadBuf = some b → b.number ≠ n.toNat) →
            exec (.loadForm p) s = .next (s.answered [0x02, 0x00]))
          ∧ ∀ held : List Byte,
            (c ∈ ([0x00, 0x80] : List Byte) ∧ held = [])
              ∨ (c ∈ ([0x01, 0x81] : List Byte) ∧ s.fu.loadBuf = some ⟨n.toNat, held⟩) →
            (512 < held.length + bs.length → exec (.loadForm p) s
              = .next ({ s with fu := { s.fu with loadBuf := none } }.answered [0x03, 0x00]))
            ∧ (held.length + bs.length ≤ 512 →
              (c ∈ ([0x00, 0x01] : List Byte) → exec (.loadForm p) s
                = .next ({ s with fu := { s.fu with loadBuf := some ⟨n.toNat, held ++ bs⟩ } }.answered
                    [0x00, 0x02, byteOf ((held.length + bs.length) / 256),
                     byteOf ((held.length + bs.length) % 256)]))
              ∧ (c ∈ ([0x80, 0x81] : List Byte) →
                ((∃ i, s.fu.inst = some i ∧ i.number = n.toNat) → exec (.loadForm p) s
                  = .next ({ s with fu := { s.fu with loadBuf := none } }.answered [0x02, 0x00]))
                ∧ ((∀ i, s.fu.inst = some i → i.number ≠ n.toNat) →
                  (decodeImage (held ++ bs) = none → exec (.loadForm p) s
                    = .next ({ s with fu := { s.fu with loadBuf := none } }.answered [0x03, 0x00]))
                  ∧ ∀ t, decodeImage (held ++ bs) = some t → exec (.loadForm p) s
                    = .next ({ s with fu := { s.fu with
                        loadBuf := none, slots := s.fu.slots.set (n.toNat - 1) (some t) } }.answered
                        [0x00, 0x00]))))))
  ∧ (∀ (img : List Byte) (t : Template), decodeImage img = some t → t.WithinR164 ∧ t.image = img)
  ∧ (∀ (t : Template) (order : List Field), t.WithinR164 → order.Perm t.fields →
      (∀ f ∈ t.fields, ∀ v, f.default = some v → (valueText f.kind v).length ≤ 32
        ∧ parseWritten f.kind f.width (valueText f.kind v) = some v) →
      decodeImage (templateImage t.font t.lines order)
        = some { t with image := templateImage t.font t.lines order })
  ∧ ∀ (s : State) (p : List Byte), PortReady s → p.length ≤ 63 →
      (s.store.state ≠ .idle → exec (.deleteForm p) s = .next (s.answered [0x04, 0x00]))
      ∧ (s.store.state = .idle →
        (p.length ≠ 1 ∨ (p.getD 0 0).toNat = 0 ∨ 8 < (p.getD 0 0).toNat →
          exec (.deleteForm p) s = .next (s.answered [0x03, 0x00]))
        ∧ ∀ n : Byte, p = [n] → 1 ≤ n.toNat → n.toNat ≤ 8 →
          ((∃ i, s.fu.inst = some i ∧ i.number = n.toNat) →
            exec (.deleteForm p) s = .next (s.answered [0x02, 0x00]))
          ∧ ((∀ i, s.fu.inst = some i → i.number ≠ n.toNat) →
            (s.fu.slots.getD (n.toNat - 1) none = none →
              exec (.deleteForm p) s = .next (s.answered [0x06, 0x00]))
            ∧ ∀ t, s.fu.slots.getD (n.toNat - 1) none = some t →
              exec (.deleteForm p) s = .next ({ s with fu := { s.fu with
                slots := s.fu.slots.set (n.toNat - 1) none } }.answered [0x00, 0x00])))

/-- OPEN_FORM makes the instance of a slot, COMMIT_FORM rejects or hands over its block, CANCEL_FORM
ends it, each with FORM STATE. (09 R170 (in part), 09 R171 (in part), 09 R181 (in part), 09 R182 (in
part), 09 R183 (in part), 09 R184 (in part), 09 R185 (in part), 09 R187 (in part), 01 R5 (in part),
01 R6 (in part).) -/
def Obligations.FormOpensCommitsAndCancels : Prop :=
  (∀ (s : State) (p : List Byte), CommandReady s → p.length ≤ 63 →
    (p.length ≠ 1 ∨ (p.getD 0 0).toNat = 0 ∨ 8 < (p.getD 0 0).toNat →
      exec (.openForm p) s = .next (s.answered [0x03, 0x00]))
    ∧ ∀ n : Byte, p = [n] → 1 ≤ n.toNat → n.toNat ≤ 8 →
      (s.fu.inst ≠ none → exec (.openForm p) s = .next (s.answered [0x02, 0x00]))
      ∧ (s.fu.inst = none → s.fu.slots.getD (n.toNat - 1) none = none →
        exec (.openForm p) s = .next (s.answered [0x06, 0x00]))
      ∧ ∀ t, s.fu.inst = none → s.fu.slots.getD (n.toNat - 1) none = some t →
        s.tor.nums.getD 35 0 = 0 → s.la.key.cells = [] → s.la.key.waiting = [] → s.fu.keyOut = [] →
        ∃ j : FormInst, exec (.openForm p) s
            = .next ({ s with fu := { s.fu with inst := some j } }.answered
                [0x00, 0x00, 0x58, 0x04, 0x01, n, 0x00, 0x03])
          ∧ j.phase = .opened ∧ j.number = n.toNat
          ∧ j.vals.map FieldVal.id = t.fields.map Field.id ∧ (∀ v ∈ j.vals, v.writer = .nobody)
          ∧ (∀ f, t.field? f.id = some f → f.kind.entered = true →
              valueOf j.vals f.id = f.default.getD .empty)
          ∧ j.current = (t.fields.find? fun f => f.kind.entered && !f.protect).map Field.id
          ∧ (∀ f, (t.fields.find? fun f => f.kind.entered && !f.protect) = some f →
              j.edit = valueText f.kind (valueOf j.vals f.id)))
  ∧ (∀ s : State, CommandReady s →
    ((∀ i, s.fu.inst = some i → i.phase ≠ .opened) →
      exec (.commitForm []) s = .next (s.answered [0x02, 0x00]))
    ∧ ∀ (i : FormInst) (fails : Field → Bool), s.fu.inst = some i → i.phase = .opened →
      (∀ f, fails f = ((f.required && valueOf i.vals f.id == .empty) || valueOf i.vals f.id == .overflow)) →
      (∀ f, s.formTemplate.fields.find? fails = some f →
        ((f.kind.entered = false ∨ f.protect = true ∨ i.current = some f.id) →
          exec (.commitForm []) s = .next (s.answered [0x07, 0x01, byteOf f.id]))
        ∧ (f.kind.entered = true → f.protect = false → i.current ≠ some f.id →
          s.tor.nums.getD 35 0 = 0 → s.la.key.cells = [] → s.la.key.waiting = [] → s.fu.keyOut = [] →
          exec (.commitForm []) s = .next ({ s with fu := { s.fu with inst := some { i with
            current := some f.id, edit := valueText f.kind (valueOf i.vals f.id) } } }.answered
              [0x07, 0x01, byteOf f.id])))
      ∧ ∀ block : List Entry, s.formTemplate.fields.find? fails = none → s.pe.engine ≠ .idle →
        s.la.key.cells = [] → s.la.key.waiting = [] → s.fu.keyOut = [] →
        block = formBlock s.formTemplate i.vals (s.tor.nums.getD 18 0).toNat
          (s.tor.nums.getD 29 0).toNat (decide (s.tor.nums.getD 28 0 = 1)) →
        (block.length + s.pq.entries.length ≤ 40 → s.pq.pendingBlock = none →
          (s.tor.nums.getD 36 0 ≠ 1 ∨ s.link.state ≠ .online → exec (.commitForm []) s
            = .next ({ s with
                pq := { s.pq with entries := s.pq.entries ++ block }
                fu := { s.fu with inst := none } }.answered
                [0x00, 0x00, 0x58, 0x04, 0x00, byteOf i.number, 0x03, 0x03]))
          ∧ (s.tor.nums.getD 36 0 = 1 → s.link.state = .online → exec (.commitForm []) s
            = .next ({ s with
                pq := { s.pq with entries := s.pq.entries ++ block }
                fu := { s.fu with inst := some { i with
                  phase := .reporting, reportPos := 0
                  report := reportText s.formTemplate i.number i.vals } } }.answered
                [0x00, 0x00, 0x58, 0x04, 0x03, byteOf i.number, 0x02, 0x03])))
        ∧ (40 < block.length + s.pq.entries.length → s.pq.entries.length ≤ 40 →
          exec (.commitForm []) s
            = .next ({ s with
                pq := { s.pq with pendingBlock := some block }
                fu := { s.fu with inst := some { i with phase := .pending } } }.answered
                [0x00, 0x00, 0x58, 0x04, 0x02, byteOf i.number, 0x01, 0x03])))
  ∧ (∀ (t : Template) (vals : List FieldVal) (spacing c : Nat) (rot : Bool) (k j : Nat), k < c →
    (formBlock t vals spacing c rot).length = c * (t.lines.length + 1)
    ∧ (j < t.lines.length → (formBlock t vals spacing c rot)[k * (t.lines.length + 1) + j]?
        = some (lineEntry t vals spacing rot (if rot then t.lines.length - 1 - j else j)))
    ∧ (formBlock t vals spacing c rot)[k * (t.lines.length + 1) + t.lines.length]?
        = some ⟨.form, .feed 48, decide (k + 1 = c), false⟩)
  ∧ (∀ (t : Template) (vals : List FieldVal) (spacing n : Nat) (rot : Bool) (fixed : List Byte),
    t.WithinR164 → n < t.lines.length → t.lines[n]? = some fixed → ∃ codes : List Byte,
    lineEntry t vals spacing rot n
      = ⟨.form, .text t.font (codes.map fun c => ⟨c, false, false, false⟩) rot spacing, false, false⟩
    ∧ fixed.length ≤ codes.length
    ∧ (codes.length = fixed.length ∨ ∃ f ∈ t.fields, f.line = n ∧ codes.length = f.col + f.width)
    ∧ (∀ c, c < codes.length → (∀ f ∈ t.fields, f.line = n → c < f.col ∨ f.col + f.width ≤ c) →
        codes[c]? = some (fixed.getD c 0x20))
    ∧ ∀ f ∈ t.fields, f.line = n → ∀ window : List Byte, window = (codes.drop f.col).take f.width →
      f.col + f.width ≤ codes.length
      ∧ (valueOf vals f.id = .empty → window = List.replicate f.width 0x20)
      ∧ (∀ cs, valueOf vals f.id = .text cs → cs.length ≤ f.width →
          window = cs ++ List.replicate (f.width - cs.length) 0x20)
      ∧ ∀ (m : Nat) (x : List Byte), valueOf vals f.id = .num m → x = valueText f.kind (.num m) →
        (x.length ≤ f.width → window = List.replicate (f.width - x.length) 0x20 ++ x)
        ∧ (f.width < x.length → window = List.replicate f.width 0x2A))
  ∧ (∀ (t : Template) (n : Nat) (vals : List FieldVal), n ≤ 9 → (∀ f ∈ t.fields, f.id ≤ 99) →
    reportText t n vals = [0x1C, 0x72, byteOf (0x30 + n)]
      ++ (t.fields.filter fun f => decide (valueOf vals f.id ≠ .empty)).flatMap (fun f =>
          [byteOf (0x30 + f.id / 10), byteOf (0x30 + f.id % 10), 0x3D]
            ++ valueText f.kind (valueOf vals f.id) ++ [0x3B])
      ++ [0x0D])
  ∧ ∀ s : State, CommandReady s →
    (∀ i, s.fu.inst = some i → i.phase = .opened → exec (.cancelForm []) s
      = .next ({ s with fu := { s.fu with inst := none } }.answered
          [0x00, 0x00, 0x58, 0x04, 0x00, 0x00, 0x06, 0x03]))
    ∧ (∀ i, s.fu.inst = some i → i.phase = .pending → s.pq.waitList = [] → exec (.cancelForm []) s
      = .next ({ s with
          fu := { s.fu with inst := none }, pq := { s.pq with pendingBlock := none } }.answered
          [0x00, 0x00, 0x58, 0x04, 0x00, 0x00, 0x06, 0x03]))
    ∧ ((∀ i, s.fu.inst = some i → i.phase ≠ .opened ∧ i.phase ≠ .pending) →
      exec (.cancelForm []) s = .next (s.answered [0x02, 0x00]))

/-- SET_FIELD refuses in the order of R177 or replaces the value, with CTL as writer, and every
extension and total follows it. (09 R173 (in part), 09 R176 (in part), 09 R177 (in part), 09 R179
(in part), 09 R180 (in part).) -/
def Obligations.SetFieldWritesTheValue : Prop :=
  (∀ s : State, CommandReady s → exec (.setField []) s = .next (s.answered [0x03, 0x00])
    ∧ ∀ (id : Byte) (bs : List Byte), bs.length ≤ 62 →
      ((∀ i, s.fu.inst = some i → i.phase ≠ .opened) →
        exec (.setField (id :: bs)) s = .next (s.answered [0x02, 0x00]))
      ∧ ∀ i, s.fu.inst = some i → i.phase = .opened →
        (s.formTemplate.field? id.toNat = none →
          exec (.setField (id :: bs)) s = .next (s.answered [0x06, 0x00]))
        ∧ ∀ f, s.formTemplate.field? id.toNat = some f →
          ((f.kind.entered = false ∨ parseWritten f.kind f.width bs = none) →
            exec (.setField (id :: bs)) s = .next (s.answered [0x03, 0x00]))
          ∧ ∀ v, f.kind.entered = true → parseWritten f.kind f.width bs = some v →
            f.id ∈ i.vals.map FieldVal.id → fieldsApart s.formTemplate.fields = true →
            ∃ j : FormInst, exec (.setField (id :: bs)) s
                = .next ({ s with fu := { s.fu with inst := some j } }.answered
                    [0x00, 0x00, 0x54, 0x02, id, 0x03])
              ∧ j = { i with vals := j.vals, total := j.total, tax := j.tax, grand := j.grand
                             edit := if i.current = some f.id then valueText f.kind v else i.edit }
              ∧ j.vals.map FieldVal.id = i.vals.map FieldVal.id
              ∧ valueOf j.vals f.id = v ∧ writerOf j.vals f.id = .ctl
              ∧ (∀ g, s.formTemplate.field? g.id = some g → g.kind.entered = true → g.id ≠ f.id →
                  valueOf j.vals g.id = valueOf i.vals g.id
                  ∧ writerOf j.vals g.id = writerOf i.vals g.id)
              ∧ (∀ e q p, s.formTemplate.field? e.id = some e → e.kind = .ext →
                  e.id ∈ i.vals.map FieldVal.id →
                  s.formTemplate.field? e.qref = some q → q.kind = .qty →
                  s.formTemplate.field? e.pref = some p → p.kind = .price →
                  valueOf j.vals e.id = extension (valueOf j.vals e.qref) (valueOf j.vals e.pref))
              ∧ j.total = totalOf (extValues s.formTemplate j.vals)
              ∧ j.tax = taxOf j.total (s.tor.nums.getD 30 0) ∧ j.grand = grandOf j.total j.tax)
  ∧ (∀ a b : Nat, extension (.num a) (.num b) = if a * b ≤ 999999999 then .num (a * b) else .overflow)
  ∧ (∀ v : Value, extension .empty v = .empty ∧ extension v .empty = .empty)
  ∧ (∀ exts : List Value, totalOf (.overflow :: exts) = .overflow
      ∧ totalOf (.empty :: exts) = totalOf exts)
  ∧ (∀ ns : List Nat, totalOf (ns.map Value.num)
      = if ns.foldr (· + ·) 0 ≤ 999999999 then .num (ns.foldr (· + ·) 0) else .overflow)
  ∧ (∀ (n : Nat) (r : Int), 0 ≤ r → ∃ m : Nat, taxOf (.num n) r = .num m
      ∧ 20000 * (m : Int) ≤ 2 * n * r + 10000 ∧ 2 * (n : Int) * r + 10000 < 20000 * (m + 1)
      ∧ grandOf (.num n) (.num m) = .num (n + m))
  ∧ (∀ (r : Int), taxOf .overflow r = .overflow ∧ grandOf .overflow .overflow = .overflow)
  ∧ (∀ (w : List Byte) (d : Byte), digitsVal [] = 0
      ∧ isDigit d = decide (0x30 ≤ d.toNat ∧ d.toNat ≤ 0x39)
      ∧ (isDigit d = true → digitsVal (w ++ [d]) = 10 * digitsVal w + (d.toNat - 0x30)))
  ∧ (∀ w : List Byte, readEdit .text w = (if w = [] then .empty else .text w)
      ∧ readEdit .qty w = (if w = [] then .empty else .num (digitsVal w))
      ∧ (w.all isDigit = true →
        readEdit .price w = (if w = [] then .empty else .num (100 * digitsVal w))
        ∧ readEdit .price (w ++ [0x2E]) = (if w = [] then .empty else .num (100 * digitsVal w))
        ∧ ∀ a b : Byte, isDigit a = true → isDigit b = true →
          readEdit .price (w ++ [0x2E, a]) = .num (100 * digitsVal w + 10 * (a.toNat - 0x30))
          ∧ readEdit .price (w ++ [0x2E, a, b])
            = .num (100 * digitsVal w + 10 * (a.toNat - 0x30) + (b.toNat - 0x30))))
  ∧ ∀ (width : Nat) (bs : List Byte) (texts digits price : Prop),
    (texts ↔ bs.length ≤ width ∧ ∀ b ∈ bs, 0x20 ≤ b.toNat ∧ b.toNat ≠ 0x7F ∧ b.toNat ≠ 0x3B) →
    (digits ↔ 1 ≤ bs.length ∧ bs.length ≤ 5 ∧ bs.all isDigit = true) →
    (price ↔ bs.any isDigit = true ∧ ∃ w f : List Byte, w.length ≤ 5 ∧ f.length ≤ 2
      ∧ w.all isDigit = true ∧ f.all isDigit = true ∧ (bs = w ∨ bs = w ++ 0x2E#8 :: f)) →
    (texts → parseWritten .text width bs = some (.text bs))
    ∧ (¬ texts → parseWritten .text width bs = none)
    ∧ parseWritten .qty width [] = some .empty ∧ parseWritten .price width [] = some .empty
    ∧ (digits → parseWritten .qty width bs = some (readEdit .qty bs))
    ∧ (¬ digits → bs ≠ [] → parseWritten .qty width bs = none)
    ∧ (price → parseWritten .price width bs = some (readEdit .price bs))
    ∧ (¬ price → bs ≠ [] → parseWritten .price width bs = none)
    ∧ ∀ k : FieldKind, k ∈ [FieldKind.ext, .total, .tax, .grand] → parseWritten k width bs = none

/-- GET_FIELD answers RANGE, STATE or ABSENT, or OK with id, kind, value status, last writer and
value text, changing nothing. (R178.) -/
def Obligations.GetFieldReadsTheField : Prop :=
  (∀ (s : State) (p : List Byte), CommandReady s → p.length ≤ 63 →
    (p.length ≠ 1 → exec (.getField p) s = .next (s.answered [0x03, 0x00]))
    ∧ ∀ id : Byte, p = [id] →
      (s.fu.inst = none → exec (.getField p) s = .next (s.answered [0x02, 0x00]))
      ∧ ∀ i, s.fu.inst = some i →
        (s.formTemplate.field? id.toNat = none →
          exec (.getField p) s = .next (s.answered [0x06, 0x00]))
        ∧ ∀ f, s.formTemplate.field? id.toNat = some f →
          (valueText f.kind (valueOf i.vals f.id)).length ≤ 251 →
          exec (.getField p) s = .next (s.answered
            ([0x00, byteOf (4 + (valueText f.kind (valueOf i.vals f.id)).length), id,
              match f.kind with
              | .text => 0 | .qty => 1 | .price => 2 | .ext => 3 | .total => 4 | .tax => 5
              | .grand => 6,
              match valueOf i.vals f.id with | .empty => 0 | .text _ => 1 | .num _ => 1 | .overflow => 2,
              if f.kind.entered then
                match writerOf i.vals f.id with | .nobody => 0 | .key => 1 | .far => 2 | .ctl => 3
              else 0]
              ++ valueText f.kind (valueOf i.vals f.id))))
  ∧ ∀ (k : FieldKind) (n : Nat) (cs : List Byte), n ≤ 1250000000 →
      valueText k .empty = [] ∧ valueText k .overflow = [0x2A] ∧ valueText k (.text cs) = cs
      ∧ digitsVal (valueText .qty (.num n)) = n
      ∧ (valueText .qty (.num n)).all isDigit = true
      ∧ (1 ≤ n → (valueText .qty (.num n)).headD 0 ≠ 0x30#8)
      ∧ (k ≠ .qty → ∃ w, valueText k (.num n)
          = w ++ [0x2E, byteOf (0x30 + n / 10 % 10), byteOf (0x30 + n % 10)]
          ∧ digitsVal w = n / 100 ∧ w.all isDigit = true)

/-- A keyed code with a form OPEN edits the current field when Table 9-3 accepts it, else it is
discarded. That an 08h refused so counts its first 08h as taken, and is then offered from the 20h
on, is the model's reading (log entry 23). Left out: an echo into a line with double width or cells
at or behind its column, and a wrap whose append is made. (09 R173 (in part), 09 R174 (in part), 08
R157 (in part), 08 R154 (in part), 01 R12 (in part), 01 R13 (in part), 01 R14 (in part), 01 R16 (in
part).) -/
def Obligations.KeyedCodesEditTheCurrentField : Prop :=
  ∀ (s : State) (ev : KeyEvent) (c : Byte) (i : FormInst) (out : State → State), Awake s →
    s.ks.kq = [ev] → s.tor.nums.getD 32 0 ≠ 1 → s.fu.inst = some i →
    (s.kr.entry (if ev.mods.func then .func else if ev.mods.ctrl then .ctrl
      else if ev.mods.shift then .shift else .base) ev.key).kind = .code c →
    (∀ u, out u = { u with ks := { u.ks with kq := [], kqOverrun := false, echoBegun := false } }) →
    (i.phase = .pending ∨ i.phase = .reporting
        ∨ (i.phase = .opened ∧ i.current = none ∧ s.la.key.waiting = []) →
      exec .keyEventExamine s = .next (out s))
    ∧ (i.phase = .opened → s.tor.nums.getD 35 0 = 1 → s.la.key.waiting ≠ [] →
      exec .keyEventExamine s = .next s)
    ∧ ∀ (f : Field) (accepted : Prop) (font : Font) (width : Nat), i.phase = .opened → i.current = some f.id →
      s.formTemplate.field? f.id = some f → s.tor.nums.getD 35 0 = 0 ∨ s.la.key.waiting = [] →
      font = s.la.key.font.getD (if s.tor.nums.getD 17 0 = 0 then .std else .cond) →
      width = (if font = .std then 32 else 48) →
      f.id ∈ i.vals.map FieldVal.id → f.kind.entered = true →
      (accepted ↔ (c.toNat = 0x08 ∧ i.edit ≠ [])
        ∨ (f.kind = .text ∧ 0x20 ≤ c.toNat ∧ c.toNat ≠ 0x7F ∧ c.toNat ≠ 0x3B
            ∧ i.edit.length < f.width)
        ∨ (f.kind = .qty ∧ 0x30 ≤ c.toNat ∧ c.toNat ≤ 0x39 ∧ i.edit.length < 5)
        ∨ (f.kind = .price ∧ c.toNat = 0x2E ∧ 0x2E#8 ∉ i.edit)
        ∨ (f.kind = .price ∧ 0x30 ≤ c.toNat ∧ c.toNat ≤ 0x39 ∧ 0x2E#8 ∉ i.edit ∧ i.edit.length < 5)
        ∨ (f.kind = .price ∧ 0x30 ≤ c.toNat ∧ c.toNat ≤ 0x39
            ∧ ∃ a b, i.edit = a ++ 0x2E#8 :: b ∧ 0x2E#8 ∉ a ∧ b.length < 2)) →
      (¬ accepted → exec .keyEventExamine s = .next (out s))
      ∧ (accepted → c.toNat ≠ 0x08 → s.tor.nums.getD 35 0 = 1 → s.tor.nums.getD 19 0 = 1 →
          s.la.key.cells ≠ [] →
          width < s.la.key.column + (if s.la.key.double then 2 else 1) →
          39 < s.pq.entries.length ∨ s.pq.pendingBlock ≠ none ∨ s.pq.waitList ≠ [] →
          exec .keyEventExamine s = .next { s with
            la := { s.la with key := ⟨[], 0, false, false, none, [⟨.key, .text font
              (commitCells 0 s.la.key.cells) false (s.tor.nums.getD 18 0).toNat, false, false⟩]⟩ }
            pq := { s.pq with waitList := s.pq.waitList ++ [.key] }
            ks := { s.ks with echoBegun := false } })
      ∧ (accepted → c.toNat = 0x08 → s.tor.nums.getD 35 0 = 1 → s.tor.nums.getD 19 0 = 1 →
          s.la.key.cells ≠ [] →
          width < (if s.ks.echoBegun then s.la.key.column else s.la.key.column - 1)
            + (if s.la.key.double then 2 else 1) →
          39 < s.pq.entries.length ∨ s.pq.pendingBlock ≠ none ∨ s.pq.waitList ≠ [] →
          exec .keyEventExamine s = .next { s with
            la := { s.la with key := ⟨[], 0, false, false, none, [⟨.key, .text font
              (commitCells 0 s.la.key.cells) false (s.tor.nums.getD 18 0).toNat, false, false⟩]⟩ }
            pq := { s.pq with waitList := s.pq.waitList ++ [.key] }
            ks := { s.ks with echoBegun := true } })
      ∧ (accepted → ∀ la : LineAssembler,
          (s.tor.nums.getD 35 0 = 0 ∧ la = s.la
            ∨ s.tor.nums.getD 35 0 = 1 ∧ c.toNat ≠ 0x08 ∧ s.tor.nums.getD 19 0 ≠ 1 ∧ la = s.la
              ∧ width < s.la.key.column + (if s.la.key.double then 2 else 1)
            ∨ s.tor.nums.getD 35 0 = 1 ∧ c.toNat ≠ 0x08 ∧ s.la.key.double = false
              ∧ s.la.key.column + 1 ≤ width
              ∧ (∀ p ∈ s.la.key.cells, p.col + p.cell.columns ≤ s.la.key.column)
              ∧ la = { s.la with key := { s.la.key with
                  cells := s.la.key.cells ++ [⟨s.la.key.column, ⟨c, s.la.key.underline, false, false⟩⟩]
                  column := s.la.key.column + 1, font := some font } }
            ∨ s.tor.nums.getD 35 0 = 1 ∧ c.toNat = 0x08 ∧ s.ks.echoBegun = true
              ∧ s.la.key.double = false ∧ s.la.key.column + 1 ≤ width
              ∧ (∀ p ∈ s.la.key.cells, p.col + p.cell.columns ≤ s.la.key.column)
              ∧ la = { s.la with key := { s.la.key with
                  cells := s.la.key.cells
                    ++ [⟨s.la.key.column, ⟨0x20, s.la.key.underline, false, false⟩⟩]
                  font := some font } }
            ∨ s.tor.nums.getD 35 0 = 1 ∧ c.toNat = 0x08 ∧ s.ks.echoBegun = false
              ∧ s.la.key.double = false
              ∧ ∃ pre col old, s.la.key.cells = pre ++ [⟨col, old⟩] ∧ old.double = false
                ∧ s.la.key.column = col + 1 ∧ col + 1 ≤ width
                ∧ (∀ p ∈ pre, p.col + p.cell.columns ≤ col)
                ∧ la = { s.la with key := { s.la.key with
                    cells := pre ++ [⟨col, ⟨0x20, s.la.key.underline, false, false⟩⟩]
                    column := col, font := some font } }) →
          ∃ j : FormInst,
          exec .keyEventExamine s = .next (out { s with la := la, fu := { s.fu with inst := some j } })
          ∧ j = { i with vals := j.vals, edit := j.edit
                         total := j.total, tax := j.tax, grand := j.grand }
          ∧ j.edit = (if c.toNat = 0x08 then i.edit.dropLast else i.edit ++ [c])
          ∧ valueOf j.vals f.id = readEdit f.kind j.edit ∧ writerOf j.vals f.id = .key
          ∧ j.tax = taxOf j.total (s.tor.nums.getD 30 0) ∧ j.grand = grandOf j.total j.tax
          ∧ (∀ g, s.formTemplate.field? g.id = some g → g.kind.entered = true → g.id ≠ f.id →
              valueOf j.vals g.id = valueOf i.vals g.id
              ∧ writerOf j.vals g.id = writerOf i.vals g.id))

/-- State.reset keeps every rule stated of all times: capacities, sizes, link, store and options,
forms, engine states, pending block. (11 R208 (in part), 04 R96 (in part), 10 R197 (in part), 03 R68
(in part).) -/
def Obligations.ResetKeepsTheRules : Prop :=
  WithinCapacity State.reset ∧ FixedSizes State.reset ∧ GainAndErrors State.reset
    ∧ DownIsEmpty State.reset ∧ TrainingInQualify State.reset ∧ StoreAndOptions State.reset
    ∧ FormsWithinKinds State.reset ∧ EngineStates State.reset ∧ BlockPendsWithForm State.reset ∧ State.reset.pending = []

/-- Every step keeps PQ within 40, RXF 64, TXQ 2 and 158, KQ 16, the down list 6, the command FIFO
80, the output FIFO 128, and forms within their kinds. (01 R1 (in part), 01 R3 (in part), 05 R101
(in part), 05 R108 (in part), 05 R110 (in part), 07 R141 (in part), 07 R144 (in part), 11 R200 (in
part), 11 R201 (in part), 11 R202 (in part), 09 R164 (in part), 09 R169 (in part).) -/
def Obligations.StepKeepsCapacities : Prop :=
  ∀ s t : State, WithinCapacity s → FormsWithinKinds s → StoreAndOptions s → step s = .next t →
    WithinCapacity t ∧ FormsWithinKinds t

/-- Every step keeps the fixed numbers of keys, keymap entries, slots, glyphs and save bytes, and
leaves no notice unplaced. (11 R202 (in part), 07 R133 (in part), 08 R151 (in part), 09 R164 (in
part), 02 R29 (in part), 11 R205 (in part).) -/
def Obligations.StepKeepsSizesAndPlacesNotices : Prop :=
  ∀ s t : State, FixedSizes s → step s = .next t → FixedSizes t

/-- Every step keeps the gain and error ranges, TXQ empty in DOWN, and LINK TRAINING exactly in
QUALIFY. (04 R83 (in part), 04 R84 (in part), 04 R94 (in part), 04 R95 (in part), 05 R113 (in part),
03 R45 (in part).) -/
def Obligations.StepKeepsTheLinkRules : Prop :=
  ∀ s t : State, GainAndErrors s → DownIsEmpty s → TrainingInQualify s → step s = .next t →
    GainAndErrors t ∧ DownIsEmpty t ∧ TrainingInQualify t

/-- Every step keeps the store's memory in canonical form and every option within its range. (10
R189 (in part), 10 R190 (in part), 10 R194 (in part), 10 R197 (in part), 11 R204 (in part), 06 R120
(in part).) -/
def Obligations.StepKeepsStoreAndOptions : Prop :=
  ∀ s t : State, StoreAndOptions s → step s = .next t → StoreAndOptions t

/-- Every step keeps IDLE with nothing to do and nothing held, HELD with a hold cause and no row,
DORMANT and WAKING with the power state. (03 R38 (in part), 03 R39 (in part), 03 R67 (in part), 11
R206 (in part), 11 R207 (in part).) -/
def Obligations.StepKeepsTheEngineStates : Prop :=
  ∀ s t : State, EngineStates s → step s = .next t → EngineStates t

/-- Every step keeps a FORM block pending exactly while the form instance is COMMIT PENDING. (01 R5
(in part), 01 R6 (in part), 09 R169 (in part), 09 R184 (in part), 09 R187 (in part).) -/
def Obligations.StepKeepsBlockWithForm : Prop :=
  ∀ s t : State, BlockPendsWithForm s → step s = .next t → BlockPendsWithForm t
end

