-- ==== Sys2Proof/Laws/State.lean ====
section
/-! SUPPORT. One lemma per field for each update of the state, so that no proof unfolds a record update. -/

namespace Sys2Proof.Machine

@[simp] theorem State.onPe_pending (s : State) (f) : (s.onPe f).pending = s.pending := rfl
@[simp] theorem State.onPe_raised (s : State) (f) : (s.onPe f).raised = s.raised := rfl
@[simp] theorem State.onPe_pins (s : State) (f) : (s.onPe f).pins = s.pins := rfl
@[simp] theorem State.onPe_port (s : State) (f) : (s.onPe f).port = s.port := rfl
@[simp] theorem State.onPe_store (s : State) (f) : (s.onPe f).store = s.store := rfl
@[simp] theorem State.onPe_tor (s : State) (f) : (s.onPe f).tor = s.tor := rfl
@[simp] theorem State.onPe_link (s : State) (f) : (s.onPe f).link = s.link := rfl
@[simp] theorem State.onPe_framer (s : State) (f) : (s.onPe f).framer = s.framer := rfl
@[simp] theorem State.onPe_dp (s : State) (f) : (s.onPe f).dp = s.dp := rfl
@[simp] theorem State.onPe_la (s : State) (f) : (s.onPe f).la = s.la := rfl
@[simp] theorem State.onPe_pq (s : State) (f) : (s.onPe f).pq = s.pq := rfl
@[simp] theorem State.onPe_cg (s : State) (f) : (s.onPe f).cg = s.cg := rfl
@[simp] theorem State.onPe_pe (s : State) (f) : (s.onPe f).pe = f s.pe := rfl
@[simp] theorem State.onPe_ks (s : State) (f) : (s.onPe f).ks = s.ks := rfl
@[simp] theorem State.onPe_kr (s : State) (f) : (s.onPe f).kr = s.kr := rfl
@[simp] theorem State.onPe_fu (s : State) (f) : (s.onPe f).fu = s.fu := rfl

@[simp] theorem State.onPq_pending (s : State) (f) : (s.onPq f).pending = s.pending := rfl
@[simp] theorem State.onPq_raised (s : State) (f) : (s.onPq f).raised = s.raised := rfl
@[simp] theorem State.onPq_pins (s : State) (f) : (s.onPq f).pins = s.pins := rfl
@[simp] theorem State.onPq_port (s : State) (f) : (s.onPq f).port = s.port := rfl
@[simp] theorem State.onPq_store (s : State) (f) : (s.onPq f).store = s.store := rfl
@[simp] theorem State.onPq_tor (s : State) (f) : (s.onPq f).tor = s.tor := rfl
@[simp] theorem State.onPq_link (s : State) (f) : (s.onPq f).link = s.link := rfl
@[simp] theorem State.onPq_framer (s : State) (f) : (s.onPq f).framer = s.framer := rfl
@[simp] theorem State.onPq_dp (s : State) (f) : (s.onPq f).dp = s.dp := rfl
@[simp] theorem State.onPq_la (s : State) (f) : (s.onPq f).la = s.la := rfl
@[simp] theorem State.onPq_pq (s : State) (f) : (s.onPq f).pq = f s.pq := rfl
@[simp] theorem State.onPq_cg (s : State) (f) : (s.onPq f).cg = s.cg := rfl
@[simp] theorem State.onPq_pe (s : State) (f) : (s.onPq f).pe = s.pe := rfl
@[simp] theorem State.onPq_ks (s : State) (f) : (s.onPq f).ks = s.ks := rfl
@[simp] theorem State.onPq_kr (s : State) (f) : (s.onPq f).kr = s.kr := rfl
@[simp] theorem State.onPq_fu (s : State) (f) : (s.onPq f).fu = s.fu := rfl

@[simp] theorem State.onLink_pending (s : State) (f) : (s.onLink f).pending = s.pending := rfl
@[simp] theorem State.onLink_raised (s : State) (f) : (s.onLink f).raised = s.raised := rfl
@[simp] theorem State.onLink_pins (s : State) (f) : (s.onLink f).pins = s.pins := rfl
@[simp] theorem State.onLink_port (s : State) (f) : (s.onLink f).port = s.port := rfl
@[simp] theorem State.onLink_store (s : State) (f) : (s.onLink f).store = s.store := rfl
@[simp] theorem State.onLink_tor (s : State) (f) : (s.onLink f).tor = s.tor := rfl
@[simp] theorem State.onLink_link (s : State) (f) : (s.onLink f).link = f s.link := rfl
@[simp] theorem State.onLink_framer (s : State) (f) : (s.onLink f).framer = s.framer := rfl
@[simp] theorem State.onLink_dp (s : State) (f) : (s.onLink f).dp = s.dp := rfl
@[simp] theorem State.onLink_la (s : State) (f) : (s.onLink f).la = s.la := rfl
@[simp] theorem State.onLink_pq (s : State) (f) : (s.onLink f).pq = s.pq := rfl
@[simp] theorem State.onLink_cg (s : State) (f) : (s.onLink f).cg = s.cg := rfl
@[simp] theorem State.onLink_pe (s : State) (f) : (s.onLink f).pe = s.pe := rfl
@[simp] theorem State.onLink_ks (s : State) (f) : (s.onLink f).ks = s.ks := rfl
@[simp] theorem State.onLink_kr (s : State) (f) : (s.onLink f).kr = s.kr := rfl
@[simp] theorem State.onLink_fu (s : State) (f) : (s.onLink f).fu = s.fu := rfl

@[simp] theorem State.onFramer_pending (s : State) (f) : (s.onFramer f).pending = s.pending := rfl
@[simp] theorem State.onFramer_raised (s : State) (f) : (s.onFramer f).raised = s.raised := rfl
@[simp] theorem State.onFramer_pins (s : State) (f) : (s.onFramer f).pins = s.pins := rfl
@[simp] theorem State.onFramer_port (s : State) (f) : (s.onFramer f).port = s.port := rfl
@[simp] theorem State.onFramer_store (s : State) (f) : (s.onFramer f).store = s.store := rfl
@[simp] theorem State.onFramer_tor (s : State) (f) : (s.onFramer f).tor = s.tor := rfl
@[simp] theorem State.onFramer_link (s : State) (f) : (s.onFramer f).link = s.link := rfl
@[simp] theorem State.onFramer_framer (s : State) (f) : (s.onFramer f).framer = f s.framer := rfl
@[simp] theorem State.onFramer_dp (s : State) (f) : (s.onFramer f).dp = s.dp := rfl
@[simp] theorem State.onFramer_la (s : State) (f) : (s.onFramer f).la = s.la := rfl
@[simp] theorem State.onFramer_pq (s : State) (f) : (s.onFramer f).pq = s.pq := rfl
@[simp] theorem State.onFramer_cg (s : State) (f) : (s.onFramer f).cg = s.cg := rfl
@[simp] theorem State.onFramer_pe (s : State) (f) : (s.onFramer f).pe = s.pe := rfl
@[simp] theorem State.onFramer_ks (s : State) (f) : (s.onFramer f).ks = s.ks := rfl
@[simp] theorem State.onFramer_kr (s : State) (f) : (s.onFramer f).kr = s.kr := rfl
@[simp] theorem State.onFramer_fu (s : State) (f) : (s.onFramer f).fu = s.fu := rfl

@[simp] theorem State.onKs_pending (s : State) (f) : (s.onKs f).pending = s.pending := rfl
@[simp] theorem State.onKs_raised (s : State) (f) : (s.onKs f).raised = s.raised := rfl
@[simp] theorem State.onKs_pins (s : State) (f) : (s.onKs f).pins = s.pins := rfl
@[simp] theorem State.onKs_port (s : State) (f) : (s.onKs f).port = s.port := rfl
@[simp] theorem State.onKs_store (s : State) (f) : (s.onKs f).store = s.store := rfl
@[simp] theorem State.onKs_tor (s : State) (f) : (s.onKs f).tor = s.tor := rfl
@[simp] theorem State.onKs_link (s : State) (f) : (s.onKs f).link = s.link := rfl
@[simp] theorem State.onKs_framer (s : State) (f) : (s.onKs f).framer = s.framer := rfl
@[simp] theorem State.onKs_dp (s : State) (f) : (s.onKs f).dp = s.dp := rfl
@[simp] theorem State.onKs_la (s : State) (f) : (s.onKs f).la = s.la := rfl
@[simp] theorem State.onKs_pq (s : State) (f) : (s.onKs f).pq = s.pq := rfl
@[simp] theorem State.onKs_cg (s : State) (f) : (s.onKs f).cg = s.cg := rfl
@[simp] theorem State.onKs_pe (s : State) (f) : (s.onKs f).pe = s.pe := rfl
@[simp] theorem State.onKs_ks (s : State) (f) : (s.onKs f).ks = f s.ks := rfl
@[simp] theorem State.onKs_kr (s : State) (f) : (s.onKs f).kr = s.kr := rfl
@[simp] theorem State.onKs_fu (s : State) (f) : (s.onKs f).fu = s.fu := rfl

@[simp] theorem State.onFu_pending (s : State) (f) : (s.onFu f).pending = s.pending := rfl
@[simp] theorem State.onFu_raised (s : State) (f) : (s.onFu f).raised = s.raised := rfl
@[simp] theorem State.onFu_pins (s : State) (f) : (s.onFu f).pins = s.pins := rfl
@[simp] theorem State.onFu_port (s : State) (f) : (s.onFu f).port = s.port := rfl
@[simp] theorem State.onFu_store (s : State) (f) : (s.onFu f).store = s.store := rfl
@[simp] theorem State.onFu_tor (s : State) (f) : (s.onFu f).tor = s.tor := rfl
@[simp] theorem State.onFu_link (s : State) (f) : (s.onFu f).link = s.link := rfl
@[simp] theorem State.onFu_framer (s : State) (f) : (s.onFu f).framer = s.framer := rfl
@[simp] theorem State.onFu_dp (s : State) (f) : (s.onFu f).dp = s.dp := rfl
@[simp] theorem State.onFu_la (s : State) (f) : (s.onFu f).la = s.la := rfl
@[simp] theorem State.onFu_pq (s : State) (f) : (s.onFu f).pq = s.pq := rfl
@[simp] theorem State.onFu_cg (s : State) (f) : (s.onFu f).cg = s.cg := rfl
@[simp] theorem State.onFu_pe (s : State) (f) : (s.onFu f).pe = s.pe := rfl
@[simp] theorem State.onFu_ks (s : State) (f) : (s.onFu f).ks = s.ks := rfl
@[simp] theorem State.onFu_kr (s : State) (f) : (s.onFu f).kr = s.kr := rfl
@[simp] theorem State.onFu_fu (s : State) (f) : (s.onFu f).fu = f s.fu := rfl

@[simp] theorem State.onPort_pending (s : State) (f) : (s.onPort f).pending = s.pending := rfl
@[simp] theorem State.onPort_raised (s : State) (f) : (s.onPort f).raised = s.raised := rfl
@[simp] theorem State.onPort_pins (s : State) (f) : (s.onPort f).pins = s.pins := rfl
@[simp] theorem State.onPort_port (s : State) (f) : (s.onPort f).port = f s.port := rfl
@[simp] theorem State.onPort_store (s : State) (f) : (s.onPort f).store = s.store := rfl
@[simp] theorem State.onPort_tor (s : State) (f) : (s.onPort f).tor = s.tor := rfl
@[simp] theorem State.onPort_link (s : State) (f) : (s.onPort f).link = s.link := rfl
@[simp] theorem State.onPort_framer (s : State) (f) : (s.onPort f).framer = s.framer := rfl
@[simp] theorem State.onPort_dp (s : State) (f) : (s.onPort f).dp = s.dp := rfl
@[simp] theorem State.onPort_la (s : State) (f) : (s.onPort f).la = s.la := rfl
@[simp] theorem State.onPort_pq (s : State) (f) : (s.onPort f).pq = s.pq := rfl
@[simp] theorem State.onPort_cg (s : State) (f) : (s.onPort f).cg = s.cg := rfl
@[simp] theorem State.onPort_pe (s : State) (f) : (s.onPort f).pe = s.pe := rfl
@[simp] theorem State.onPort_ks (s : State) (f) : (s.onPort f).ks = s.ks := rfl
@[simp] theorem State.onPort_kr (s : State) (f) : (s.onPort f).kr = s.kr := rfl
@[simp] theorem State.onPort_fu (s : State) (f) : (s.onPort f).fu = s.fu := rfl

@[simp] theorem State.onStore_pending (s : State) (f) : (s.onStore f).pending = s.pending := rfl
@[simp] theorem State.onStore_raised (s : State) (f) : (s.onStore f).raised = s.raised := rfl
@[simp] theorem State.onStore_pins (s : State) (f) : (s.onStore f).pins = s.pins := rfl
@[simp] theorem State.onStore_port (s : State) (f) : (s.onStore f).port = s.port := rfl
@[simp] theorem State.onStore_store (s : State) (f) : (s.onStore f).store = f s.store := rfl
@[simp] theorem State.onStore_tor (s : State) (f) : (s.onStore f).tor = s.tor := rfl
@[simp] theorem State.onStore_link (s : State) (f) : (s.onStore f).link = s.link := rfl
@[simp] theorem State.onStore_framer (s : State) (f) : (s.onStore f).framer = s.framer := rfl
@[simp] theorem State.onStore_dp (s : State) (f) : (s.onStore f).dp = s.dp := rfl
@[simp] theorem State.onStore_la (s : State) (f) : (s.onStore f).la = s.la := rfl
@[simp] theorem State.onStore_pq (s : State) (f) : (s.onStore f).pq = s.pq := rfl
@[simp] theorem State.onStore_cg (s : State) (f) : (s.onStore f).cg = s.cg := rfl
@[simp] theorem State.onStore_pe (s : State) (f) : (s.onStore f).pe = s.pe := rfl
@[simp] theorem State.onStore_ks (s : State) (f) : (s.onStore f).ks = s.ks := rfl
@[simp] theorem State.onStore_kr (s : State) (f) : (s.onStore f).kr = s.kr := rfl
@[simp] theorem State.onStore_fu (s : State) (f) : (s.onStore f).fu = s.fu := rfl

@[simp] theorem State.onPins_pending (s : State) (f) : (s.onPins f).pending = s.pending := rfl
@[simp] theorem State.onPins_raised (s : State) (f) : (s.onPins f).raised = s.raised := rfl
@[simp] theorem State.onPins_pins (s : State) (f) : (s.onPins f).pins = f s.pins := rfl
@[simp] theorem State.onPins_port (s : State) (f) : (s.onPins f).port = s.port := rfl
@[simp] theorem State.onPins_store (s : State) (f) : (s.onPins f).store = s.store := rfl
@[simp] theorem State.onPins_tor (s : State) (f) : (s.onPins f).tor = s.tor := rfl
@[simp] theorem State.onPins_link (s : State) (f) : (s.onPins f).link = s.link := rfl
@[simp] theorem State.onPins_framer (s : State) (f) : (s.onPins f).framer = s.framer := rfl
@[simp] theorem State.onPins_dp (s : State) (f) : (s.onPins f).dp = s.dp := rfl
@[simp] theorem State.onPins_la (s : State) (f) : (s.onPins f).la = s.la := rfl
@[simp] theorem State.onPins_pq (s : State) (f) : (s.onPins f).pq = s.pq := rfl
@[simp] theorem State.onPins_cg (s : State) (f) : (s.onPins f).cg = s.cg := rfl
@[simp] theorem State.onPins_pe (s : State) (f) : (s.onPins f).pe = s.pe := rfl
@[simp] theorem State.onPins_ks (s : State) (f) : (s.onPins f).ks = s.ks := rfl
@[simp] theorem State.onPins_kr (s : State) (f) : (s.onPins f).kr = s.kr := rfl
@[simp] theorem State.onPins_fu (s : State) (f) : (s.onPins f).fu = s.fu := rfl

@[simp] theorem raise_pending (n : Notice) (s : State) : (raise n s).pending = s.pending := rfl
@[simp] theorem raise_raised (n : Notice) (s : State) : (raise n s).raised = s.raised ++ [n] := rfl
@[simp] theorem raise_pins (n : Notice) (s : State) : (raise n s).pins = s.pins := rfl
@[simp] theorem raise_port (n : Notice) (s : State) : (raise n s).port = s.port := rfl
@[simp] theorem raise_store (n : Notice) (s : State) : (raise n s).store = s.store := rfl
@[simp] theorem raise_tor (n : Notice) (s : State) : (raise n s).tor = s.tor := rfl
@[simp] theorem raise_link (n : Notice) (s : State) : (raise n s).link = s.link := rfl
@[simp] theorem raise_framer (n : Notice) (s : State) : (raise n s).framer = s.framer := rfl
@[simp] theorem raise_dp (n : Notice) (s : State) : (raise n s).dp = s.dp := rfl
@[simp] theorem raise_la (n : Notice) (s : State) : (raise n s).la = s.la := rfl
@[simp] theorem raise_pq (n : Notice) (s : State) : (raise n s).pq = s.pq := rfl
@[simp] theorem raise_cg (n : Notice) (s : State) : (raise n s).cg = s.cg := rfl
@[simp] theorem raise_pe (n : Notice) (s : State) : (raise n s).pe = s.pe := rfl
@[simp] theorem raise_ks (n : Notice) (s : State) : (raise n s).ks = s.ks := rfl
@[simp] theorem raise_kr (n : Notice) (s : State) : (raise n s).kr = s.kr := rfl
@[simp] theorem raise_fu (n : Notice) (s : State) : (raise n s).fu = s.fu := rfl

@[simp] theorem placeNotices_pending (s : State) : (placeNotices s).pending = s.pending := rfl
@[simp] theorem placeNotices_raised (s : State) : (placeNotices s).raised = [] := rfl
@[simp] theorem placeNotices_pins (s : State) : (placeNotices s).pins = s.pins := rfl
@[simp] theorem placeNotices_port (s : State) :
    (placeNotices s).port = s.raised.foldl placeNotice s.port := rfl
@[simp] theorem placeNotices_store (s : State) : (placeNotices s).store = s.store := rfl
@[simp] theorem placeNotices_tor (s : State) : (placeNotices s).tor = s.tor := rfl
@[simp] theorem placeNotices_link (s : State) : (placeNotices s).link = s.link := rfl
@[simp] theorem placeNotices_framer (s : State) : (placeNotices s).framer = s.framer := rfl
@[simp] theorem placeNotices_dp (s : State) : (placeNotices s).dp = s.dp := rfl
@[simp] theorem placeNotices_la (s : State) : (placeNotices s).la = s.la := rfl
@[simp] theorem placeNotices_pq (s : State) : (placeNotices s).pq = s.pq := rfl
@[simp] theorem placeNotices_cg (s : State) : (placeNotices s).cg = s.cg := rfl
@[simp] theorem placeNotices_pe (s : State) : (placeNotices s).pe = s.pe := rfl
@[simp] theorem placeNotices_ks (s : State) : (placeNotices s).ks = s.ks := rfl
@[simp] theorem placeNotices_kr (s : State) : (placeNotices s).kr = s.kr := rfl
@[simp] theorem placeNotices_fu (s : State) : (placeNotices s).fu = s.fu := rfl

@[simp] theorem State.putLine_pending (s : State) (nm : LineName) (l : OpenLine) : (s.putLine nm l).pending = s.pending := rfl
@[simp] theorem State.putLine_raised (s : State) (nm : LineName) (l : OpenLine) : (s.putLine nm l).raised = s.raised := rfl
@[simp] theorem State.putLine_pins (s : State) (nm : LineName) (l : OpenLine) : (s.putLine nm l).pins = s.pins := rfl
@[simp] theorem State.putLine_port (s : State) (nm : LineName) (l : OpenLine) : (s.putLine nm l).port = s.port := rfl
@[simp] theorem State.putLine_store (s : State) (nm : LineName) (l : OpenLine) : (s.putLine nm l).store = s.store := rfl
@[simp] theorem State.putLine_tor (s : State) (nm : LineName) (l : OpenLine) : (s.putLine nm l).tor = s.tor := rfl
@[simp] theorem State.putLine_link (s : State) (nm : LineName) (l : OpenLine) : (s.putLine nm l).link = s.link := rfl
@[simp] theorem State.putLine_framer (s : State) (nm : LineName) (l : OpenLine) : (s.putLine nm l).framer = s.framer := rfl
@[simp] theorem State.putLine_dp (s : State) (nm : LineName) (l : OpenLine) : (s.putLine nm l).dp = s.dp := rfl
@[simp] theorem State.putLine_la (s : State) (nm : LineName) (l : OpenLine) :
    (s.putLine nm l).la = s.la.putLine nm l := rfl
@[simp] theorem State.putLine_pq (s : State) (nm : LineName) (l : OpenLine) : (s.putLine nm l).pq = s.pq := rfl
@[simp] theorem State.putLine_cg (s : State) (nm : LineName) (l : OpenLine) : (s.putLine nm l).cg = s.cg := rfl
@[simp] theorem State.putLine_pe (s : State) (nm : LineName) (l : OpenLine) : (s.putLine nm l).pe = s.pe := rfl
@[simp] theorem State.putLine_ks (s : State) (nm : LineName) (l : OpenLine) : (s.putLine nm l).ks = s.ks := rfl
@[simp] theorem State.putLine_kr (s : State) (nm : LineName) (l : OpenLine) : (s.putLine nm l).kr = s.kr := rfl
@[simp] theorem State.putLine_fu (s : State) (nm : LineName) (l : OpenLine) : (s.putLine nm l).fu = s.fu := rfl

@[simp] theorem putInst_pending (i : Option FormInst) (s : State) : (putInst i s).pending = s.pending := rfl
@[simp] theorem putInst_raised (i : Option FormInst) (s : State) : (putInst i s).raised = s.raised := rfl
@[simp] theorem putInst_pins (i : Option FormInst) (s : State) : (putInst i s).pins = s.pins := rfl
@[simp] theorem putInst_port (i : Option FormInst) (s : State) : (putInst i s).port = s.port := rfl
@[simp] theorem putInst_store (i : Option FormInst) (s : State) : (putInst i s).store = s.store := rfl
@[simp] theorem putInst_tor (i : Option FormInst) (s : State) : (putInst i s).tor = s.tor := rfl
@[simp] theorem putInst_link (i : Option FormInst) (s : State) : (putInst i s).link = s.link := rfl
@[simp] theorem putInst_framer (i : Option FormInst) (s : State) : (putInst i s).framer = s.framer := rfl
@[simp] theorem putInst_dp (i : Option FormInst) (s : State) : (putInst i s).dp = s.dp := rfl
@[simp] theorem putInst_la (i : Option FormInst) (s : State) : (putInst i s).la = s.la := rfl
@[simp] theorem putInst_pq (i : Option FormInst) (s : State) : (putInst i s).pq = s.pq := rfl
@[simp] theorem putInst_cg (i : Option FormInst) (s : State) : (putInst i s).cg = s.cg := rfl
@[simp] theorem putInst_pe (i : Option FormInst) (s : State) : (putInst i s).pe = s.pe := rfl
@[simp] theorem putInst_ks (i : Option FormInst) (s : State) : (putInst i s).ks = s.ks := rfl
@[simp] theorem putInst_kr (i : Option FormInst) (s : State) : (putInst i s).kr = s.kr := rfl
@[simp] theorem putInst_fu (i : Option FormInst) (s : State) : (putInst i s).fu = { s.fu with inst := i } := rfl

@[simp] theorem State.answered_pending (s : State) (bs : List Byte) : (s.answered bs).pending = s.pending := rfl
@[simp] theorem State.answered_raised (s : State) (bs : List Byte) : (s.answered bs).raised = s.raised := rfl
@[simp] theorem State.answered_pins (s : State) (bs : List Byte) : (s.answered bs).pins = s.pins := rfl
@[simp] theorem State.answered_port (s : State) (bs : List Byte) :
    (s.answered bs).port = { s.port with out := s.port.out ++ bs } := rfl
@[simp] theorem State.answered_store (s : State) (bs : List Byte) : (s.answered bs).store = s.store := rfl
@[simp] theorem State.answered_tor (s : State) (bs : List Byte) : (s.answered bs).tor = s.tor := rfl
@[simp] theorem State.answered_link (s : State) (bs : List Byte) : (s.answered bs).link = s.link := rfl
@[simp] theorem State.answered_framer (s : State) (bs : List Byte) : (s.answered bs).framer = s.framer := rfl
@[simp] theorem State.answered_dp (s : State) (bs : List Byte) : (s.answered bs).dp = s.dp := rfl
@[simp] theorem State.answered_la (s : State) (bs : List Byte) : (s.answered bs).la = s.la := rfl
@[simp] theorem State.answered_pq (s : State) (bs : List Byte) : (s.answered bs).pq = s.pq := rfl
@[simp] theorem State.answered_cg (s : State) (bs : List Byte) : (s.answered bs).cg = s.cg := rfl
@[simp] theorem State.answered_pe (s : State) (bs : List Byte) : (s.answered bs).pe = s.pe := rfl
@[simp] theorem State.answered_ks (s : State) (bs : List Byte) : (s.answered bs).ks = s.ks := rfl
@[simp] theorem State.answered_kr (s : State) (bs : List Byte) : (s.answered bs).kr = s.kr := rfl
@[simp] theorem State.answered_fu (s : State) (bs : List Byte) : (s.answered bs).fu = s.fu := rfl

/-- A line put in place of another is read back, and the other lines stay. -/
@[simp] theorem LineAssembler.line_putLine (la : LineAssembler) (a b : LineName) (l : OpenLine) :
    (la.putLine a l).line b = if a = b then l else la.line b := by
  cases a <;> cases b <;> rfl

@[simp] theorem LineAssembler.putLine_farHoldMs (la : LineAssembler) (a : LineName) (l : OpenLine) :
    (la.putLine a l).farHoldMs = la.farHoldMs := by
  cases a <;> rfl

/-- With no notice raised, placing changes nothing. -/
theorem placeNotices_nil {s : State} (h : s.raised = []) : placeNotices s = s := by
  cases s; simp only at h; subst h; rfl

/-- A notice for which there is room joins the output FIFO whole. -/
theorem placeNotice_room {p : Port} {n : Notice} (h : p.out.length + n.bytes.length ≤ 128) :
    placeNotice p n = { p with out := p.out ++ n.bytes } := by
  simp [placeNotice, Config.outputCapacity, h]

/-- A notice never takes a byte out of the output FIFO. -/
theorem placeNotice_out (p : Port) (n : Notice) :
    ∃ bs, placeNotice p n = { p with out := p.out ++ bs }
      ∨ placeNotice p n = { p with noticeLost := true } := by
  unfold placeNotice
  split
  · exact ⟨n.bytes, .inl rfl⟩
  · exact ⟨[], .inr rfl⟩

/-- Placing changes the output FIFO, which only grows, and NOTICE LOST, and nothing else of the
port. -/
theorem foldl_placeNotice (ns : List Notice) (p : Port) :
    ∃ bs lost, ns.foldl placeNotice p = { p with out := p.out ++ bs, noticeLost := lost } := by
  induction ns generalizing p with
  | nil => exact ⟨[], p.noticeLost, by simp⟩
  | cons n ns ih =>
    obtain ⟨bs, h | h⟩ := placeNotice_out p n <;> obtain ⟨cs, lost, hc⟩ := ih (placeNotice p n)
    · exact ⟨bs ++ cs, lost, by rw [List.foldl_cons, hc, h]; simp⟩
    · exact ⟨cs, lost, by rw [List.foldl_cons, hc, h]⟩

/-- While RESET is not asserted an event acts, and its notices are placed. -/
theorem event_next {f : State → State} {s : State} (h : s.pins.resetAsserted = false) :
    event f s = .next (placeNotices (f s)) := by
  simp [event, h]

end Sys2Proof.Machine
end

