-- ==== Sys2Proof/Laws/Frames.lean ====
section
/-! SUPPORT. What the shared operations can touch: the engine's operations, the appends and lines, and the
transmit queue's. Each lemma says once which blocks stay as they are; what a keyed code and a far-end write can do
stands last. -/

namespace Sys2Proof.Machine

/-! ### The print engine: notices, engine, queue -/

/-- `t` differs from `s` in the notices raised, the print engine and the print queue only. -/
def OnlyPrint (s t : State) : Prop := t = { s with raised := t.raised, pe := t.pe, pq := t.pq }

theorem OnlyPrint.refl (s : State) : OnlyPrint s s := rfl

theorem OnlyPrint.trans {s t u : State} (h : OnlyPrint s t) (k : OnlyPrint t u) : OnlyPrint s u := by
  unfold OnlyPrint at *; rw [k, h]

theorem OnlyPrint.after {s t u : State} (k : OnlyPrint t u) (h : OnlyPrint s t) : OnlyPrint s u := h.trans k

theorem OnlyPrint.raised (n : Notice) (s : State) : OnlyPrint s (raise n s) := rfl
theorem OnlyPrint.onPe (f) (s : State) : OnlyPrint s (s.onPe f) := rfl
theorem OnlyPrint.onPq (f) (s : State) : OnlyPrint s (s.onPq f) := rfl

theorem setCause_only (c : HoldCause) (s : State) : OnlyPrint s (setCause c s) := by
  unfold setCause; split <;> rfl

theorem enterHeld_only (s : State) : OnlyPrint s (enterHeld s) := by
  unfold enterHeld; split <;> rfl

theorem enterIdle_only (s : State) : OnlyPrint s (enterIdle s) := by
  unfold enterIdle; split <;> rfl

theorem beginFiring_only (inp : RowInputs) (s : State) : OnlyPrint s (beginFiring inp s) := by
  unfold beginFiring; dsimp only; split <;> rfl

theorem beginPrinted_only (s : State) : OnlyPrint s (beginPrinted s) := by
  unfold beginPrinted; dsimp only; split
  · rfl
  · exact (beginFiring_only _ _).after rfl

theorem beginFeed_only (s : State) : OnlyPrint s (beginFeed s) := rfl

theorem lowSupplyStop_only (s : State) : OnlyPrint s (lowSupplyStop s) := by
  unfold lowSupplyStop
  exact (setCause_only _ s).trans ((OnlyPrint.onPe _ _).trans (enterHeld_only _))

theorem beginEntryRow_only (e : Entry) (s : State) : OnlyPrint s (beginEntryRow e s) := by
  unfold beginEntryRow
  split
  · exact lowSupplyStop_only s
  · split
    · split
      · exact beginPrinted_only s
      · rfl
    · rfl

theorem beginDirectRow_only (s : State) : OnlyPrint s (beginDirectRow s) := by
  unfold beginDirectRow; split
  · exact lowSupplyStop_only s
  · rfl

/-- The engine's decision touches the engine, the in-print mark and the notices only (03 R39). -/
theorem engineDecide_only (s : State) : OnlyPrint s (engineDecide s) := by
  unfold engineDecide
  split
  · exact beginDirectRow_only s
  · dsimp only
    split
    · exact (OnlyPrint.onPe _ s).trans (enterHeld_only _)
    · split
      · exact (OnlyPrint.onPe _ s).trans (beginEntryRow_only _ _)
      · exact (OnlyPrint.onPe _ s).trans (enterIdle_only _)

theorem addCause_only (c : HoldCause) (s : State) : OnlyPrint s (addCause c s) := by
  unfold addCause; dsimp only; split
  · rfl
  · split
    · exact (setCause_only c s).trans (engineDecide_only _)
    · exact setCause_only c s

theorem removeCause_only (c : HoldCause) (s : State) : OnlyPrint s (removeCause c s) := by
  unfold removeCause; split
  · dsimp only; split
    · exact (engineDecide_only _).after rfl
    · rfl
  · rfl

theorem offerHead_only (s : State) : OnlyPrint s (offerHead s) := by
  unfold offerHead; split
  · exact engineDecide_only s
  · rfl

theorem appendEntries_only (es : List Entry) (s : State) : OnlyPrint s (appendEntries es s) := by
  unfold appendEntries
  exact (OnlyPrint.onPq _ s).trans (offerHead_only _)

theorem dropHead_only (s : State) : OnlyPrint s (dropHead s) := by
  unfold dropHead; dsimp only; split
  · exact (addCause_only _ _).after rfl
  · rfl

theorem purgeEntries_only (srcs : List Source) (s : State) : OnlyPrint s (purgeEntries srcs s).1 := by
  unfold purgeEntries
  split
  · dsimp only
    split
    · split
      · split <;> rfl
      · exact (dropHead_only _).after rfl
    · rfl
  · rfl

theorem leverAtBoundary_only (s : State) : OnlyPrint s (leverAtBoundary s) := by
  unfold leverAtBoundary
  split
  · dsimp only
    split
    · exact (OnlyPrint.onPe _ s).trans ((addCause_only _ _).trans (removeCause_only _ _))
    · exact (OnlyPrint.onPe _ s).trans (addCause_only _ _)
  · rfl

/-! ### The lines: as the engine's, and the line assembler -/

/-- `t` differs from `s` in the notices raised, the line assembler, the print engine and the print
queue only. -/
def OnlyLines (s t : State) : Prop :=
  t = { s with raised := t.raised, la := t.la, pe := t.pe, pq := t.pq }

theorem OnlyLines.refl (s : State) : OnlyLines s s := rfl

theorem OnlyLines.trans {s t u : State} (h : OnlyLines s t) (k : OnlyLines t u) : OnlyLines s u := by
  unfold OnlyLines at *; rw [k, h]

theorem OnlyLines.after {s t u : State} (k : OnlyLines t u) (h : OnlyLines s t) : OnlyLines s u := h.trans k

theorem OnlyPrint.lines {s t : State} (h : OnlyPrint s t) : OnlyLines s t := by
  unfold OnlyPrint at h; unfold OnlyLines; rw [h]

theorem OnlyLines.putLine (nm : LineName) (l : OpenLine) (s : State) : OnlyLines s (s.putLine nm l) := rfl

theorem clearLine_only (nm : LineName) (s : State) : OnlyLines s (clearLine nm s) := by
  unfold clearLine; dsimp only; split <;> rfl

theorem waitEntries_only (nm : LineName) (es : List Entry) (s : State) :
    OnlyLines s (waitEntries nm es s) := rfl

/-- Closing a line touches the line, the print queue, the engine and the notices only (01 R3, R14). -/
theorem closeLine_only {nm : LineName} {es : List Entry} {s t : State} (h : closeLine nm es s = some t) :
    OnlyLines s t := by
  unfold closeLine at h
  split at h
  · cases h; exact (clearLine_only nm s).trans (appendEntries_only _ _).lines
  · cases nm <;> cases h <;> exact (clearLine_only _ s).trans (waitEntries_only _ _ _)

theorem commitRequest_only (nm : LineName) (s : State) : OnlyLines s (commitRequest nm s) := by
  unfold commitRequest; split
  · rfl
  · cases h : closeLine nm [commitEntry s nm] s with
    | none => rfl
    | some t => exact closeLine_only h

/-- The state that a line's answer carries. -/
def LineTake.state : LineTake → State
  | .taken s => s
  | .refused s => s

theorem closeTake_only (nm : LineName) (es : List Entry) (s : State) :
    OnlyLines s (closeTake nm es s).state := by
  unfold closeTake
  cases h : closeLine nm es s with
  | none => rfl
  | some t => exact closeLine_only h

theorem takePrintable_only (nm : LineName) (b : Byte) (e : Bool) (s : State) :
    OnlyLines s (takePrintable nm b e s).state := by
  unfold takePrintable
  dsimp only
  split
  · rfl
  · split
    · split
      · rfl
      · cases h : closeLine nm [commitEntry s nm] s with
        | none => rfl
        | some t =>
          dsimp only
          split
          · exact OnlyLines.trans (closeLine_only h) (OnlyLines.putLine _ _ _)
          · exact closeLine_only h
    · rfl

theorem takeFormFeed_only (nm : LineName) (s : State) : OnlyLines s (takeFormFeed nm s).state := by
  unfold takeFormFeed
  dsimp only
  split
  · split
    · exact (appendEntries_only _ _).lines.after (OnlyLines.putLine _ _ s)
    · exact closeTake_only _ _ _
  · exact closeTake_only _ _ _

theorem takeControl_only (nm : LineName) (b : Byte) (s : State) :
    OnlyLines s (takeControl nm b s).state := by
  unfold takeControl
  dsimp only
  split
  all_goals first
    | exact closeTake_only _ _ _
    | exact takeFormFeed_only _ _
    | rfl
    | (simp only [LineTake.state]; split <;> rfl)

/-- A code offered to a line touches the lines, the print queue, the engine and the notices only
(01 R12 to R14). -/
theorem offerCode_only (nm : LineName) (b : Byte) (e : ErrKind) (s : State) :
    OnlyLines s (offerCode nm b e s).state := by
  unfold offerCode
  split
  · rfl
  · split
    · next s1 h =>
      simp only [LineTake.state]
      have : OnlyLines s s1 := by
        split at h
        · have := takePrintable_only nm b (e ≠ .none) s; rw [h] at this; exact this
        · have := takeControl_only nm b s; rw [h] at this; exact this
      split
      · exact this.trans rfl
      · exact this
    · next h =>
      split at h
      · have := takePrintable_only nm b (e ≠ .none) s; rw [h] at this; exact this
      · have := takeControl_only nm b s; rw [h] at this; exact this

/-! ### The transmit queue: the framer only -/

/-- `t` differs from `s` in the framer only. -/
def OnlyFramer (s t : State) : Prop := t = { s with framer := t.framer }

theorem OnlyFramer.refl (s : State) : OnlyFramer s s := rfl

theorem OnlyFramer.trans {s t u : State} (h : OnlyFramer s t) (k : OnlyFramer t u) : OnlyFramer s u := by
  unfold OnlyFramer at *; rw [k, h]

theorem OnlyFramer.after {s t u : State} (k : OnlyFramer t u) (h : OnlyFramer s t) : OnlyFramer s u := h.trans k

theorem txPump_only (s : State) : OnlyFramer s (txPump s) := by
  unfold txPump
  split
  · split
    · rfl
    · split <;> rfl
    · rfl
  · rfl

theorem addData_only (bs : List Byte) (s : State) : OnlyFramer s (addData bs s) :=
  (txPump_only _).after rfl

theorem placeFlow_only (b : Byte) (s : State) : OnlyFramer s (placeFlow b s) :=
  (txPump_only _).after rfl

theorem pauseTest_only (s : State) : OnlyFramer s (pauseTest s) := by
  unfold pauseTest; split
  · exact (placeFlow_only _ _).after rfl
  · rfl

theorem queueResume_only (s : State) : OnlyFramer s (queueResume s) := by
  unfold queueResume; split
  · exact (placeFlow_only _ _).after rfl
  · rfl

theorem removeRxfHead_only (s : State) : OnlyFramer s (removeRxfHead s) := by
  unfold removeRxfHead; dsimp only; split
  · exact (queueResume_only _).after rfl
  · rfl

theorem clearRxf_only (s : State) : OnlyFramer s (clearRxf s) :=
  (queueResume_only _).after rfl

/-! ### Keyed codes and far-end writes -/

/-- Codes offered to the KEY line touch what one offered code touches. -/
theorem offerKeyCodes_only (bs : List Byte) (s : State) : OnlyLines s (offerKeyCodes bs s).state := by
  induction bs generalizing s with
  | nil => rfl
  | cons b bs ih =>
    have h := offerCode_only .key b .none s
    unfold offerKeyCodes
    split <;> rename_i u hu <;> rw [hu] at h
    · exact h.trans (ih u)
    · exact h

/-- What a keyed code can do: nothing, the edit of the current field behind its echo, or an echo refused
with the event left at the head (09 R174). -/
theorem keyedCode_cases {code : Byte} {s t : State} {taken : Bool} (h : keyedCode code s = (t, taken)) :
    (taken = true ∧ t = s)
      ∨ ∃ (i : FormInst) (f : Field), s.fu.inst = some i ∧ i.phase = .opened
        ∧ i.current.bind s.formTemplate.field? = some f ∧ acceptsCode f i.edit code = true
        ∧ ((taken = true ∧ s.opt 36 ≠ 1 ∧ t = editField f code i s)
          ∨ (∃ u, taken = true ∧ s.opt 36 = 1
              ∧ offerKeyCodes (echoCodes s.ks.echoBegun code) s = .taken u ∧ t = editField f code i u)
          ∨ ∃ u, taken = false ∧ s.opt 36 = 1
              ∧ offerKeyCodes (echoCodes s.ks.echoBegun code) s = .refused u
              ∧ t = u.onKs fun ks => { ks with echoBegun := decide (code = 0x08#8) }) := by
  unfold keyedCode at h
  split at h
  next i hi =>
    split at h
    · cases h; exact .inl ⟨rfl, rfl⟩
    next ho =>
    split at h
    · cases h; exact .inl ⟨rfl, rfl⟩
    next f hf =>
    split at h
    · cases h; exact .inl ⟨rfl, rfl⟩
    next ha =>
    refine .inr ⟨i, f, hi, by simpa using ho, hf, by simpa using ha, ?_⟩
    split at h
    next h36 =>
      split at h <;> rename_i u hu <;> cases h
      · exact .inr (.inl ⟨u, rfl, h36, hu, rfl⟩)
      · exact .inr (.inr ⟨u, rfl, h36, hu, rfl⟩)
    next h36 => cases h; exact .inl ⟨rfl, h36, rfl⟩
  · cases h; exact .inl ⟨rfl, rfl⟩

/-- What a far-end write can do: a refusal, the answerback stored, or a number stored (10 R195). -/
theorem farWrite_cases (w : FarWrite) (s : State) :
    (∃ r, farWrite w s = refuseFarWrite w r s)
      ∨ (w.field = 38 ∧ farWrite w s
          = raise (.optionChanged 38 (cutAnswerback w.chars)) (storeAnswerback w.chars s))
      ∨ ∃ x, w.field ≠ 38 ∧ w.field ≠ 39 ∧ s.tor.farWritable w.field = true ∧ rateFrozen w.field s = false
        ∧ bringIntoRange w.field (signedDigits w.chars) = some x
        ∧ farWrite w s = raise (.optionChanged w.field (bytes16 x)) (storeNumber w.field x s) := by
  unfold farWrite
  split
  · exact .inl ⟨_, rfl⟩
  next h1 =>
  split
  · exact .inl ⟨_, rfl⟩
  next h2 =>
  split
  next h3 => exact .inr (.inl ⟨h3, rfl⟩)
  next h3 =>
  split
  next x hx =>
    simp only [not_or, Bool.not_eq_eq_eq_not] at h1
    exact .inr (.inr ⟨x, h3, h1.1, by simpa using h1.2, by simpa using h2, hx, rfl⟩)
  · exact .inl ⟨_, rfl⟩

end Sys2Proof.Machine
end

