-- ==== Sys2Proof/Laws/Memory.lean ====
section
/-! SUPPORT. The laws of the serial EEPROM's memory: a read after a write, and the canonical form. -/

namespace Sys2Proof.Machine

/-- A canonical list whose addresses are all above `x`. -/
def Memory.above (x : Nat) : Memory → Prop
  | [] => True
  | (a, _) :: _ => x < a

theorem Memory.wf_cons {a : Nat} {b : Byte} {m : Memory} :
    Memory.wf ((a, b) :: m) = true ↔ b ≠ erasedByte ∧ Memory.above a m ∧ Memory.wf m = true := by
  cases m with
  | nil => simp [Memory.wf, Memory.above]
  | cons c m => obtain ⟨c, d⟩ := c; simp [Memory.wf, Memory.above, and_assoc]

theorem Memory.above_trans {x a : Nat} {m : Memory} (h : x < a) (ha : Memory.above a m) :
    Memory.above x m := by
  cases m with
  | nil => trivial
  | cons c m => exact Nat.lt_trans h ha

/-- Addresses below the first entry read as erased. -/
theorem memRead_above {m : Memory} {a x : Nat} (hw : Memory.wf m = true) (ha : Memory.above a m)
    (hx : x ≤ a) : memRead m x = erasedByte := by
  induction m generalizing a with
  | nil => rfl
  | cons c m ih =>
    obtain ⟨c, d⟩ := c
    obtain ⟨-, hc, hm⟩ := Memory.wf_cons.mp hw
    have hac : a < c := ha
    have hne : c ≠ x := by omega
    simp only [memRead, if_neg hne]
    exact ih hm hc (by omega)

/-- A write keeps a lower bound of the addresses that it respects. -/
theorem memWrite_above {m : Memory} {a x : Nat} (v : Byte) (ha : Memory.above a m) (hx : a < x) :
    Memory.wf m = true → Memory.above a (memWrite m x v) := by
  intro hw
  cases m with
  | nil => by_cases hv : v = erasedByte <;> simp [memWrite, hv, Memory.above, hx]
  | cons c m =>
    obtain ⟨c, d⟩ := c
    obtain ⟨-, hc, -⟩ := Memory.wf_cons.mp hw
    have hac : a < c := ha
    unfold memWrite
    split
    · split
      · exact ha
      · exact hx
    · split
      · split
        · exact Memory.above_trans hac hc
        · exact hx
      · exact hac

/-- Writing one byte keeps the canonical form. -/
theorem memWrite_wf {m : Memory} (x : Nat) (v : Byte) (hw : Memory.wf m = true) :
    Memory.wf (memWrite m x v) = true := by
  induction m with
  | nil => by_cases hv : v = erasedByte <;> simp [memWrite, hv, Memory.wf]
  | cons c m ih =>
    obtain ⟨c, d⟩ := c
    obtain ⟨hd, hc, hm⟩ := Memory.wf_cons.mp hw
    unfold memWrite
    split
    · next hlt =>
      split
      · exact hw
      · next hv => exact Memory.wf_cons.mpr ⟨hv, hlt, hw⟩
    · next hlt =>
      split
      · next heq =>
        split
        · exact hm
        · next hv => exact Memory.wf_cons.mpr ⟨hv, heq ▸ hc, hm⟩
      · next hne =>
        exact Memory.wf_cons.mpr ⟨hd, memWrite_above v hc (by omega) hm, ih hm⟩

/-- Writing a list of bytes keeps the canonical form. -/
theorem memWriteList_wf {m : Memory} (a : Nat) (bs : List Byte) (hw : Memory.wf m = true) :
    Memory.wf (memWriteList m a bs) = true := by
  induction bs generalizing m a with
  | nil => exact hw
  | cons b bs ih => exact ih _ (memWrite_wf a b hw)

/-- A byte written is read back, and every other address reads as before. -/
theorem memRead_memWrite {m : Memory} (hw : Memory.wf m = true) (x y : Nat) (v : Byte) :
    memRead (memWrite m x v) y = if y = x then v else memRead m y := by
  induction m with
  | nil =>
    by_cases hv : v = erasedByte <;> by_cases hy : y = x <;> simp [memWrite, memRead, hv, hy]
    intro h; exact absurd h.symm hy
  | cons c m ih =>
    obtain ⟨c, d⟩ := c
    obtain ⟨-, hc, hm⟩ := Memory.wf_cons.mp hw
    unfold memWrite
    split
    · next hlt =>
      split
      · next hv =>
        by_cases hy : y = x
        · simp only [if_pos hy, hv]
          exact memRead_above (a := x) hw hlt (by omega)
        · rw [if_neg hy]
      · by_cases hy : x = y
        · subst hy; simp [memRead]
        · have hy' : y ≠ x := fun h => hy h.symm
          simp [memRead, hy, hy']
    · next hlt =>
      split
      · next heq =>
        subst heq
        split
        · next hv =>
          by_cases hy : y = x
          · subst hy
            simp only [if_true, hv]
            exact memRead_above hm hc (Nat.le_refl _)
          · have hy' : x ≠ y := fun h => hy h.symm
            simp [memRead, hy, hy']
        · by_cases hy : x = y
          · subst hy; simp [memRead]
          · have hy' : y ≠ x := fun h => hy h.symm
            simp [memRead, hy, hy']
      · next hne =>
        by_cases hcy : c = y
        · subst hcy
          have : c ≠ x := fun h => hne h.symm
          simp [memRead, this]
        · simp only [memRead, if_neg hcy]
          exact ih hm

/-- Bytes written at rising addresses are read back, and every other address reads as before. -/
theorem memRead_memWriteList {m : Memory} (hw : Memory.wf m = true) (a y : Nat) (bs : List Byte) :
    memRead (memWriteList m a bs) y
      = if a ≤ y ∧ y < a + bs.length then bs.getD (y - a) 0 else memRead m y := by
  induction bs generalizing m a with
  | nil =>
    rw [if_neg (by rintro ⟨h1, h2⟩; simp only [List.length_nil] at h2; omega)]
    rfl
  | cons b bs ih =>
    simp only [memWriteList, List.length_cons]
    rw [ih (memWrite_wf a b hw), memRead_memWrite hw]
    by_cases h1 : a + 1 ≤ y ∧ y < a + 1 + bs.length
    · have h2 : a ≤ y ∧ y < a + (bs.length + 1) := by omega
      have h3 : y - a = (y - (a + 1)) + 1 := by omega
      simp only [if_pos h1, if_pos h2, h3, List.getD_cons_succ]
    · by_cases h4 : y = a
      · subst h4
        have h2 : y ≤ y ∧ y < y + (bs.length + 1) := by omega
        rw [if_neg h1, if_pos rfl, if_pos h2, Nat.sub_self, List.getD_cons_zero]
      · have h2 : ¬(a ≤ y ∧ y < a + (bs.length + 1)) := by omega
        rw [if_neg h1, if_neg h4, if_neg h2]

/-- A range read is each of its bytes in address order. -/
theorem memReadRange_eq (m : Memory) (a n : Nat) :
    memReadRange m a n = (List.range n).map fun i => memRead m (a + i) := by
  induction n generalizing a with
  | zero => rfl
  | succ n ih => simp [memReadRange, ih, List.range_succ_eq_map, Nat.add_assoc, Nat.add_comm 1]

end Sys2Proof.Machine
end

