-- ==== Sys2Proof/Laws/Outputs.lean ====
section
/-! SUPPORT. The serial outputs: the bits on SDAT, and the transactions on STCL and STDA. -/

namespace Sys2Proof.Machine

@[simp] theorem headSerial_length (d : Dots) : (headSerial d).length = 384 := by simp [headSerial]

/-- The k-th bit of a head load is dot 383 - k. -/
theorem headSerial_get (d : Dots) {k : Nat} (h : k < 384) :
    (headSerial d)[k]? = some (d.getLsbD (383 - k)) := by simp [headSerial, h]

@[simp] theorem rowSerial_length (p : BitVec 8) : (rowSerial p).length = 8 := by simp [rowSerial]

/-- The k-th bit of a key row pattern is row 7 - k. -/
theorem rowSerial_get (p : BitVec 8) {k : Nat} (h : k < 8) :
    (rowSerial p)[k]? = some (p.getLsbD (7 - k)) := by simp [rowSerial, h]

/-- On a free bus SDAT carries nothing. -/
theorem sdatOut_free {s : State} (h : s.pe.bus = .free) : sdatOut s = [] := by simp [sdatOut, h]

/-- STCL and STDA are released while the store is IDLE and while RESET is asserted (11 R203, R208). -/
theorem storeLines_released {s : State}
    (h : s.pins.resetAsserted = true ∨ s.store.state = .idle) : storeLines s = .released := by
  unfold storeLines
  split
  · rfl
  · rcases h with h | h
    · contradiction
    · rw [h]

/-- STCL and STDA carry the read transactions while the store is LOADING. -/
theorem storeLines_loading {s : State} {reload : Bool} (hr : s.pins.resetAsserted = false)
    (h : s.store.state = .loading reload) :
    storeLines s = .reads (loadTransactions reload s.store.mem) := by simp [storeLines, hr, h]

/-- With the mark A6h a load reads each of its areas. -/
theorem loadTransactions_marked {m : Memory} (reload : Bool) (h : memRead m 0 = imageMark) :
    loadTransactions reload m = (loadAreas reload).map fun a => readTransaction m a.1 a.2 := by
  simp [loadTransactions, h]

/-- With another mark the mark is all that a load reads. -/
theorem loadTransactions_unmarked {m : Memory} (reload : Bool) (h : memRead m 0 ≠ imageMark) :
    loadTransactions reload m = [readTransaction m 0 1] := by
  simp [loadTransactions, h]

@[simp] theorem loadDriven_none (reload : Bool) (m : Memory) :
    loadDriven reload none m = loadTransactions reload m := rfl

/-- A load whose `k`-th address byte is not acknowledged stops at that byte. -/
theorem loadDriven_some {reload : Bool} {m : Memory} {k : Nat} {pre post : List (List BusItem)}
    {tr : List BusItem} (h : loadTransactions reload m = pre ++ tr :: post) (hk : pre.length = k / 4) :
    loadDriven reload (some k) m = pre ++ [tr.take (sentUpTo (k % 4))] := by
  simp [loadDriven, h, ← hk]

/-- STCL and STDA carry the write transaction of the stage and its poll while the store is SAVING. -/
theorem storeLines_saving {s : State} {stage : SaveStage} {page : Nat} {image : List Byte}
    (hr : s.pins.resetAsserted = false) (h : s.store.state = .saving stage page image) :
    storeLines s = .writes
      (writeTransaction (stageWrite stage page image).1 (stageWrite stage page image).2) pollItems := by
  simp [storeLines, hr, h]

/-- Every byte received is acknowledged but the last. -/
theorem receiveAll_eq (bs : List Byte) :
    receiveAll bs = bs.mapIdx fun i b => BusItem.receive b (decide (i + 1 < bs.length)) := by
  induction bs with
  | nil => rfl
  | cons b bs ih =>
    cases bs with
    | nil => rfl
    | cons c cs => simp [receiveAll, ih, List.mapIdx_cons]

/-- With all rows driven a line reads closed just when a key of its column is closed. -/
theorem columnsClosed_getLsbD (all : BitVec 80) {c : Nat} (hc : c < 10) :
    (columnsClosed all).getLsbD c = (List.range 8).any fun r => all.getLsbD (10 * r + c) := by
  simp [columnsClosed, List.range, List.range.loop, hc, Bool.or_assoc]

end Sys2Proof.Machine
end

