-- ==== Sys2Proof/Laws/PerInstr.lean ====
section
/-! SUPPORT. One lemma per command: the frame that a well-formed command row writes has a payload that its
length byte can carry, and its code stands in Table 11-2 unless the row is UNKNOWN_COMMAND. -/

namespace Sys2Proof.Laws.FrameFits

open Sys2Proof.Machine

/-- The row is UNKNOWN_COMMAND. -/
def isUnknown : Instr → Bool
  | .unknownCommand _ _ => true
  | _ => false

/-- What a well-formed command's frame keeps (11 R200, R201). -/
def Statement (i : Instr) : Prop :=
  i.wellFormed = true → ∀ c p, frameOf i = some (c, p) →
    p.length ≤ 63 ∧ listedCode c = !isUnknown i

/-- A row with a listed code of its own. -/
theorem of_frame {i : Instr} {code : Byte} {payload : List Byte} (hf : frameOf i = some (code, payload))
    (hc : listedCode code = true) (hu : isUnknown i = false)
    (hw : i.wellFormed = payloadFits payload) : Statement i := by
  intro hwf c p h
  rw [hf] at h
  cases h
  rw [hw] at hwf
  exact ⟨of_decide_eq_true hwf, by rw [hc, hu]; rfl⟩

/-- A row that writes no frame. -/
theorem of_none {i : Instr} (hf : frameOf i = none) : Statement i := by
  intro _ c p h; rw [hf] at h; cases h

theorem status (payload : List Byte) : Statement (.status payload) := of_frame rfl (by decide) rfl rfl
theorem saveStore (payload : List Byte) : Statement (.saveStore payload) := of_frame rfl (by decide) rfl rfl
theorem dormant (payload : List Byte) : Statement (.dormant payload) := of_frame rfl (by decide) rfl rfl
theorem setOption (payload : List Byte) : Statement (.setOption payload) := of_frame rfl (by decide) rfl rfl
theorem getOption (payload : List Byte) : Statement (.getOption payload) := of_frame rfl (by decide) rfl rfl
theorem printText (payload : List Byte) : Statement (.printText payload) := of_frame rfl (by decide) rfl rfl
theorem endLine (payload : List Byte) : Statement (.endLine payload) := of_frame rfl (by decide) rfl rfl
theorem feed (payload : List Byte) : Statement (.feed payload) := of_frame rfl (by decide) rfl rfl
theorem purge (payload : List Byte) : Statement (.purge payload) := of_frame rfl (by decide) rfl rfl
theorem printStop (payload : List Byte) : Statement (.printStop payload) := of_frame rfl (by decide) rfl rfl
theorem printGo (payload : List Byte) : Statement (.printGo payload) := of_frame rfl (by decide) rfl rfl
theorem loadCharacter (payload : List Byte) : Statement (.loadCharacter payload) := of_frame rfl (by decide) rfl rfl
theorem linkOriginate (payload : List Byte) : Statement (.linkOriginate payload) := of_frame rfl (by decide) rfl rfl
theorem linkAnswer (payload : List Byte) : Statement (.linkAnswer payload) := of_frame rfl (by decide) rfl rfl
theorem linkDrop (payload : List Byte) : Statement (.linkDrop payload) := of_frame rfl (by decide) rfl rfl
theorem send (payload : List Byte) : Statement (.send payload) := of_frame rfl (by decide) rfl rfl
theorem sendBreak (payload : List Byte) : Statement (.sendBreak payload) := of_frame rfl (by decide) rfl rfl
theorem loadKeymap (payload : List Byte) : Statement (.loadKeymap payload) := of_frame rfl (by decide) rfl rfl
theorem loadForm (payload : List Byte) : Statement (.loadForm payload) := of_frame rfl (by decide) rfl rfl
theorem deleteForm (payload : List Byte) : Statement (.deleteForm payload) := of_frame rfl (by decide) rfl rfl
theorem openForm (payload : List Byte) : Statement (.openForm payload) := of_frame rfl (by decide) rfl rfl
theorem setField (payload : List Byte) : Statement (.setField payload) := of_frame rfl (by decide) rfl rfl
theorem getField (payload : List Byte) : Statement (.getField payload) := of_frame rfl (by decide) rfl rfl
theorem commitForm (payload : List Byte) : Statement (.commitForm payload) := of_frame rfl (by decide) rfl rfl
theorem cancelForm (payload : List Byte) : Statement (.cancelForm payload) := of_frame rfl (by decide) rfl rfl
theorem unknownCommand (code : Byte) (payload : List Byte) : Statement (.unknownCommand code payload) := by
  intro hwf c p h
  cases h
  simp only [Instr.wellFormed, Bool.and_eq_true, payloadFits, decide_eq_true_eq,
    Bool.not_eq_true'] at hwf
  exact ⟨hwf.1, hwf.2⟩
theorem commandByteWrite (b : Byte) : Statement (.commandByteWrite b) := of_none rfl
theorem portClear : Statement .portClear := of_none rfl
theorem outputFifoRead : Statement .outputFifoRead := of_none rfl
theorem statusByteRead : Statement .statusByteRead := of_none rfl
theorem resetAssert : Statement .resetAssert := of_none rfl
theorem resetRelease (storesel : Bool) : Statement (.resetRelease storesel) := of_none rfl
theorem storeLoadEnd (missed : Option Nat) : Statement (.storeLoadEnd missed) := of_none rfl
theorem saveWriteDone : Statement .saveWriteDone := of_none rfl
theorem savePollTimeout : Statement .savePollTimeout := of_none rfl
theorem saveWriteNoAcknowledge : Statement .saveWriteNoAcknowledge := of_none rfl
theorem keyWakeClosure (closed atEntry : BitVec 80) :
    Statement (.keyWakeClosure closed atEntry) := of_none rfl
theorem wakingEnd : Statement .wakingEnd := of_none rfl
theorem paperAbsent : Statement .paperAbsent := of_none rfl
theorem paperPresent : Statement .paperPresent := of_none rfl
theorem paperCountExpiry : Statement .paperCountExpiry := of_none rfl
theorem leverOpen : Statement .leverOpen := of_none rfl
theorem leverClosed : Statement .leverClosed := of_none rfl
theorem leverCountExpiry : Statement .leverCountExpiry := of_none rfl
theorem hotMeasurement (t : Int) : Statement (.hotMeasurement t) := of_none rfl
theorem lowSupplyMeasurement (v : Nat) : Statement (.lowSupplyMeasurement v) := of_none rfl
theorem temperatureMeasurement (t : Int) : Statement (.temperatureMeasurement t) := of_none rfl
theorem headLoad : Statement .headLoad := of_none rfl
theorem strobeEnd : Statement .strobeEnd := of_none rfl
theorem motorStep (v : Nat) : Statement (.motorStep v) := of_none rfl
theorem waitListService : Statement .waitListService := of_none rfl
theorem pendingBlockAppend : Statement .pendingBlockAppend := of_none rfl
theorem farHoldTimeout : Statement .farHoldTimeout := of_none rfl
theorem scanRequest : Statement .scanRequest := of_none rfl
theorem keyRowScan (closed : BitVec 10) : Statement (.keyRowScan closed) := of_none rfl
theorem typematicTimer : Statement .typematicTimer := of_none rfl
theorem keyEventExamine : Statement .keyEventExamine := of_none rfl
theorem carrierPresent (level : Int) : Statement (.carrierPresent level) := of_none rfl
theorem carrierAbsent (level : Int) : Statement (.carrierAbsent level) := of_none rfl
theorem connectWaitExpiry : Statement .connectWaitExpiry := of_none rfl
theorem qualifyExpiry : Statement .qualifyExpiry := of_none rfl
theorem holdoverExpiry : Statement .holdoverExpiry := of_none rfl
theorem characterReceived (data : Byte) (parityBit : Bool) (stopMark : Bool) (level : Int) : Statement (.characterReceived data parityBit stopMark level) := of_none rfl
theorem startBit (midSpace : Bool) : Statement (.startBit midSpace) := of_none rfl
theorem markDecision : Statement .markDecision := of_none rfl
theorem breakPending : Statement .breakPending := of_none rfl
theorem receivedBreak : Statement .receivedBreak := of_none rfl
theorem disconnectSpace : Statement .disconnectSpace := of_none rfl
theorem breakSendEnd : Statement .breakSendEnd := of_none rfl
theorem transmitCharacterEnd : Statement .transmitCharacterEnd := of_none rfl
theorem directiveByteTake : Statement .directiveByteTake := of_none rfl
theorem directiveTimeout : Statement .directiveTimeout := of_none rfl
theorem replyAdd : Statement .replyAdd := of_none rfl
theorem reportByteAdd : Statement .reportByteAdd := of_none rfl

end Sys2Proof.Laws.FrameFits
end

