-- ==== Sys2Proof/Laws/Port.lean ====
section
/-! SUPPORT. The port: what a frame written to a ready port does, and how the response and the notices stand in
the output FIFO (11 R200 to R202). -/

namespace Sys2Proof.Machine

/-- One complete frame that the output FIFO has room for runs (11 R201). -/
theorem runWaiting_one {f : CmdFrame} {s : State} (hf : s.port.frames = [f])
    (hr : responseFits s.port = true) :
    runWaiting s = respond (runCommand f (s.onPort fun p => { p with frames := [] })) := by
  simp [runWaiting, hf, runFrames, hr]

/-- Payload bytes written behind a length byte, but for the last: the frame grows and nothing runs. -/
theorem write_payload (code : Byte) (bs got : List Byte) (b : Byte) (s : State)
    (hd : s.port.power ≠ .dormant) (hf : s.port.frames = [])
    (hp : s.port.parser = .payload code got (bs.length + 1)) (hl : got.length + bs.length ≤ 62) :
    (bs ++ [b]).foldl (fun s b => writeByte b s) s
      = runWaiting (s.onPort fun p => { p with frames := [⟨code, got ++ bs ++ [b]⟩], parser := .code }) := by
  induction bs generalizing got s with
  | nil =>
    have hc : ¬(80 ≤ s.port.commandCount) := by
      simp only [Port.commandCount, hf, hp, FrameParser.held, List.map_nil, List.sum_nil]
      simp at hl; omega
    simp [writeByte, hd, State.onPort, parseByte, hp, Config.commandCapacity, hc, payloadByte, hf]
  | cons c cs ih =>
    have hc : ¬(80 ≤ s.port.commandCount) := by
      simp only [Port.commandCount, hf, hp, FrameParser.held, List.map_nil, List.sum_nil]
      simp at hl; omega
    have hw : writeByte c s
        = s.onPort fun p => { p with parser := .payload code (got ++ [c]) (cs.length + 1) } := by
      simp [writeByte, hd, State.onPort, parseByte, hp, Config.commandCapacity, hc, payloadByte,
        runWaiting, runFrames, hf]
    rw [List.cons_append, List.foldl_cons, hw]
    rw [ih (got ++ [c]) _ (by simpa using hd) (by simpa using hf) (by simp)
      (by simp at hl ⊢; omega)]
    simp [State.onPort, List.append_assoc]

/-- A frame's bytes written to a port in CODE with an empty command FIFO put the frame there, and it
runs if there is room (11 R200, R201). -/
theorem writeFrame_run (code : Byte) (p : List Byte) (s : State) (hd : s.port.power ≠ .dormant)
    (hf : s.port.frames = []) (hp : s.port.parser = .code) (hl : p.length ≤ 63) :
    writeFrame code p s
      = runWaiting (s.onPort fun q => { q with frames := [⟨code, p⟩], parser := .code }) := by
  have h1 : writeByte code s = s.onPort fun q => { q with parser := .length code } := by
    simp [writeByte, hd, State.onPort, parseByte, hp, Config.commandCapacity, Port.commandCount, hf,
      FrameParser.held, runWaiting, runFrames]
  have hb : (byteOf p.length).toNat = p.length := by
    simp only [byteOf, BitVec.toNat_ofNat]; omega
  unfold writeFrame frameBytes
  rw [List.foldl_cons, List.foldl_cons, h1]
  cases hpl : p with
  | nil =>
    simp [writeByte, hd, State.onPort, parseByte, Config.commandCapacity, Port.commandCount, hf,
      FrameParser.held, lengthByte, byteOf]
  | cons c cs =>
    have hne : byteOf p.length ≠ 0 := by
      intro h
      have : (byteOf p.length).toNat = 0 := by rw [h]; rfl
      rw [hb, hpl] at this; simp at this
    have h63 : ¬(63 < (byteOf p.length).toNat) := by omega
    rw [← hpl]
    have h2 : writeByte (byteOf p.length) (s.onPort fun q => { q with parser := .length code })
        = s.onPort fun q => { q with parser := .payload code [] p.length } := by
      simp [writeByte, hd, State.onPort, parseByte, Config.commandCapacity, Port.commandCount, hf,
        FrameParser.held, lengthByte, hb, show ¬(63 < p.length) by omega,
        show byteOf p.length ≠ 0#8 from hne, runWaiting, runFrames]
    rw [h2]
    obtain ⟨init, last, hil⟩ : ∃ init last, p = init ++ [last] :=
      ⟨p.dropLast, p.getLast (by rw [hpl]; simp), (List.dropLast_concat_getLast (by rw [hpl]; simp)).symm⟩
    have hlen : p.length = init.length + 1 := by rw [hil]; simp
    rw [hil] at hl ⊢
    rw [write_payload code init [] last _ (by simpa using hd) (by simpa using hf)
      (by simp) (by simp at hl; simp; omega)]
    simp [State.onPort]

/-- A command frame written to a ready port runs at its last byte, and its response stands ahead of the
notices raised on that event (11 R201, R202). -/
theorem deliverFrame_ready {code : Byte} {p : List Byte} {s : State} (h : PortReady s)
    (hl : p.length ≤ 63) :
    deliverFrame code p s = .next (respond (runCommand ⟨code, p⟩ s)) := by
  obtain ⟨⟨hr, hn⟩, hd, hf, hp, ho⟩ := h
  have hlong : ¬(255 < p.length) := by omega
  have hs : (s.onPort fun q => { q with frames := [], parser := .code }) = s := by
    cases s with
    | mk _ _ _ port => cases port; simp_all [State.onPort]
  have hroom : s.port.out.length + 38 ≤ 128 := by omega
  have hrun : writeFrame code p s = respond (runCommand ⟨code, p⟩ s) := by
    rw [writeFrame_run code p s hd hf hp hl]
    refine (runWaiting_one (f := ⟨code, p⟩)
      (s := s.onPort fun q => { q with frames := [⟨code, p⟩], parser := .code }) rfl
      (decide_eq_true hroom)).trans ?_
    exact congrArg (fun x => respond (runCommand ⟨code, p⟩ x)) hs
  have hraised : (writeFrame code p s).raised = [] := by rw [hrun]; rfl
  rw [deliverFrame, if_neg hlong, event_next hr, placeNotices_nil hraised, hrun]

/-- A listed command that the port does not refuse is taken by its own rule (11 R201 (3)). -/
theorem runCommand_ready {f : CmdFrame} {s : State} (hc : listedCode f.code = true)
    (hs : s.store.state.isLoading = false) : runCommand f s = runListed f s := by
  simp [runCommand, hc, hs]

/-- A response without notices: the state answered. -/
theorem respond_quiet {s : State} {r : Resp} (h : s.raised = []) :
    respond (s, r) = s.answered r.bytes := by
  unfold respond
  rw [placeNotices_nil (by simpa using h)]
  rfl

/-- The response stands first behind the bytes that the output FIFO held, and the notices raised on the
event stand behind it (11 R202). -/
theorem respond_out (o : State × Resp) :
    ∃ ns, (respond o).port.out = o.1.port.out ++ o.2.bytes ++ ns := by
  obtain ⟨bs, lost, h⟩ := foldl_placeNotice o.1.raised
    { o.1.port with out := o.1.port.out ++ o.2.bytes }
  exact ⟨bs, by simp [respond, h]⟩

end Sys2Proof.Machine
end

