-- ==== Sys2Proof/Tests/Slice0.lean ====
section
/-! SUPPORT. Own tests: the well-formedness smoke, worked examples of the manual (each test names its
chapter), and a witness for the hypotheses of every statement. -/

-- Each theorem is checked where it stands, not in a thread of its own.
set_option Elab.async false

namespace Sys2Proof.Tests

open Sys2Proof Sys2Proof.Machine

/-! ### Well-formedness -/

/-- A payload of 64 bytes is refused, one of 63 taken (11 R200). -/
theorem test_wellFormed_payload :
    (Instr.send (List.replicate 64 0x41)).wellFormed = false
      ∧ (Instr.send (List.replicate 63 0x41)).wellFormed = true := by decide +kernel

/-- UNKNOWN_COMMAND with a code of Table 11-2, or with a long payload, is refused (11 R201). -/
theorem test_wellFormed_unknown :
    (Instr.unknownCommand 0x01 []).wellFormed = false
      ∧ (Instr.unknownCommand 0x7F (List.replicate 64 0)).wellFormed = false
      ∧ (Instr.unknownCommand 0x7F []).wellFormed = true := by decide +kernel

/-- A level below -600 or above 0 is refused (04 R73). -/
theorem test_wellFormed_level :
    (Instr.carrierPresent 1).wellFormed = false ∧ (Instr.carrierAbsent (-601)).wellFormed = false
      ∧ (Instr.characterReceived 0x41 false true (-601)).wellFormed = false
      ∧ (Instr.carrierPresent 0).wellFormed = true ∧ (Instr.carrierAbsent (-600)).wellFormed = true := by
  decide +kernel

/-- The table gives no row a word: nothing is decoded, and nothing is put into the queue. -/
theorem test_decode_none (n w : Nat) :
    decodeTableWord n w = none ∧ State.withFetchWord State.reset n w = State.reset := ⟨rfl, rfl⟩

/-! ### Reset and the queue -/

/-- 10 R197 and 04 R96: rate field 2 = 2, threshold -430, gain 200; 11 R208: STORE ABSENT is told. -/
theorem test_reset_values :
    State.reset.opt 2 = 2 ∧ State.reset.opt 13 = -430 ∧ State.reset.link.gain = 200
      ∧ State.reset.port.out = [0x61, 0x01, 0x00] ∧ State.reset.pe.cadM = 16 := by decide +kernel

/-- An empty queue is a tick, and the front command is the one taken (log entries 2 and 4). -/
theorem test_step_front :
    step State.reset = .next State.reset
      ∧ step { State.reset with pending := [.portClear, .saveWriteDone] }
        = .next { State.reset with pending := [.saveWriteDone] } := ⟨rfl, rfl⟩

/-- The tick counts the FAR hold time of a line with a cell and the wait of a scan (01 R17, 03 R60). -/
theorem test_tick :
    let s := { State.reset with
      la := { laReset with far := { emptyLine with cells := [⟨0, ⟨0x41, false, false, false⟩⟩] } }
      pe := { peReset with bus := .head, scanWait := some 3 } }
    ∃ t, step s = .next t ∧ t.la.farHoldMs = 1 ∧ t.pe.scanWait = some 4 := by
  refine ⟨_, rfl, ?_⟩; decide +kernel

/-! ### Worked examples: the line and the queue (01) -/

/-- Codes offered to the FAR line one after another. -/
def farCodes : List Byte → State → State
  | [], s => s
  | b :: bs, s =>
    match offerCode .far b .none s with
    | .taken s1 => farCodes bs s1
    | .refused s1 => s1

/-- 01, CR, double width and replacement: [N][E][T] in slots 0 to 5, column 6, plain. -/
theorem test_priceNet :
    let s := farCodes [0x50, 0x52, 0x49, 0x43, 0x45, 0x0D, 0x0E, 0x4E, 0x45, 0x54, 0x0F] State.reset
    s.la.far.cells.map (fun p => (p.col, p.cell.code, p.cell.double))
        = [(0, 0x4E#8, true), (2, 0x45#8, true), (4, 0x54#8, true)]
      ∧ s.la.far.column = 6 ∧ s.la.far.double = false ∧ s.la.far.font = some .std := by
  decide +kernel

/-- 01 R18: "AB", 0Ah, "CD" with PQ full answers FULL with the count 2; the column is 2. -/
theorem test_printText_full :
    let s := { State.reset with
      pq := { pqReset with entries := List.replicate 40 (feedEntry .ctl 1) }
      pe := { peReset with engine := .held, hold := { noHold with stopped := true } } }
    ∃ t, exec (.printText [0x41, 0x42, 0x0A, 0x43, 0x44]) s = .next t
      ∧ t.port.out = [0x61, 0x01, 0x00, 0x01, 0x01, 0x02] ∧ t.la.ctl.column = 2 := by
  refine ⟨_, rfl, ?_⟩; decide +kernel

/-! ### Worked examples: rows and heat (02, 03) -/

/-- The inputs of the worked row cycle of chapter 3. -/
def rowExample : RowInputs := ⟨56, true, 900, 12, 80, 176, 2000, 150⟩

/-- 03, one row cycle: W1 1033, F 1180, W2 1219, Wp 975, We 244, Iav 1850, Dmax 58, 3 phases. -/
theorem test_rowCycle :
    widthW1 900 56 = 1033 ∧ factorF 12 10 = 1180 ∧ widthW2 rowExample 10 = 1219
      ∧ widthWp rowExample 10 = 975 ∧ widthWe rowExample 10 = 244
      ∧ currentIav rowExample = 1850 ∧ limitDmax rowExample = 58
      ∧ (splitPhases 58 130 (List.range 130)).map List.length = [58, 58, 14] := by decide +kernel

/-- 03, the two cases at the limits of the ranges. -/
theorem test_rowLimits :
    widthW2 ⟨50, false, 2000, 30, 80, 176, 2000, 150⟩ (-20) = 4000
      ∧ widthW1 200 75 = 128 ∧ factorF 30 70 = 250
      ∧ widthW2 ⟨75, false, 200, 30, 80, 176, 2000, 150⟩ 70 = 100 := by decide +kernel

/-- 03, cadence through a warming head. -/
theorem test_cadence :
    cadenceM 16 none 24 = 16 ∧ cadenceM 16 (some 24) 24 = 32 ∧ cadenceM 32 (some 24) 27 = 21
      ∧ cadenceM 21 (some 27) 27 = 42 ∧ cadenceM 42 (some 27) 31 = 21 ∧ cadenceM 21 (some 31) 37 = 7
      ∧ cadenceM 7 (some 37) 45 = 4 ∧ cadenceM 4 (some 45) 52 = 4 := by decide +kernel

/-- The cells of the worked row of chapter 2. -/
def rowCells : List Cell :=
  [⟨0x20, true, false, false⟩, ⟨0x41, false, true, true⟩, ⟨0xA5, false, false, false⟩]

/-- 02, row 22: the dots of the three cells. -/
theorem test_row22 :
    blackDots (printedRow cgReset .std rowCells false 22)
      = List.range 12 ++ [16, 17, 18, 19, 24, 25, 26, 27, 32, 33, 34, 35]
        ++ [38, 39, 42, 43, 46, 47] := by decide +kernel

/-- 02, row 0 and print index 1 of the rotated entry. -/
theorem test_row0_rotated :
    (blackDots (printedRow cgReset .std rowCells false 0)).length = 18
      ∧ (blackDots (printedRow cgReset .std rowCells true 1)).head? = some 336
      ∧ (blackDots (printedRow cgReset .std rowCells true 1)).getLast? = some 383
      ∧ (blackDots (printedRow cgReset .std rowCells true 1)).length = 30 := by decide +kernel

/-- 03 R55: dot 383 stands first on SDAT and dot 0 last; 07 R133: row 7 first and row 0 last. -/
theorem test_serialOrder :
    (headSerial (dotsOf [0, 382])).take 3 = [false, true, false]
      ∧ (headSerial (dotsOf [0, 382])).getLast? = some true
      ∧ rowSerial (rowPattern 2) = [false, false, false, false, false, true, false, false] := by
  decide +kernel

/-! ### Worked examples: link and framer (04, 05) -/

/-- 04 R77 and the call of chapter 4: coarse gains and the steps after the characters. -/
theorem test_gain :
    coarseGain (-385) = 265 ∧ coarseGain (-412) = 290 ∧ coarseGain (-390) = 270
      ∧ gainStep 270 (-390) = 270 ∧ gainStep 270 (-425) = 275 ∧ gainStep 275 (-425) = 275
      ∧ gainStep 275 (-430) = 280 ∧ gainStep 280 (-430) = 280 := by decide +kernel

/-- 04 R88: a space stop bit behind mark leaves a run in progress, which can become a break. -/
theorem test_spaceStopBit :
    let s := { State.reset with
      link := { linkReset with state := .online, role := .answer }
      framer := { framerReset with rx := .assembling ⟨7, 1, 1⟩ } }
    ∃ t u, exec (.characterReceived 0x41 false false (-300)) s = .next t
      ∧ t.link.spaceRun = some ⟨7, 1, 1⟩ ∧ t.framer.rx = .waitMark
      ∧ exec .breakPending t = .next u ∧ u.link.breakPending = true := by
  refine ⟨_, _, rfl, ?_, ?_, rfl, ?_⟩ <;> decide +kernel

/-- Table 4-1: originate transmits low and receives high, answer the other way about. -/
theorem test_bands :
    Role.originate.band = (1150, 950) ∧ Role.originate.receiveBand = some (2150, 1950)
      ∧ Role.answer.band = (2150, 1950) ∧ Role.answer.receiveBand = some (1150, 950) := by decide

/-- 04, originating a call: the answer tone at -385 after ORIG. -/
theorem test_answerTone :
    let s := { State.reset with link := { linkReset with state := .listen, role := .originate } }
    ∃ t, exec (.carrierPresent (-385)) s = .next t ∧ t.link.gain = 265
      ∧ t.port.out.drop 3 = [0x44, 0x02, 0x03, 0x02, 0x4C, 0x01, 0x10] := by
  refine ⟨_, rfl, ?_⟩; decide +kernel

/-! ### Worked examples: directives, keys, forms (06, 07, 09) -/

/-- 06 R127: 1Ch, "qP14r02", 0Dh. -/
theorem test_statusReply :
    let i : FormInst := ⟨.reporting, 3, [], .num 0, .num 0, .num 0, none, [], [], 0⟩
    statusReply { State.reset with
        pe := { peReset with engine := .printing }
        pq := { pqReset with entries := List.replicate 14 (feedEntry .form 1) }
        fu := { fuReset with inst := some i }
        link := { linkReset with errCount := 2 }
        tor := torReset.put 33 1 }
      = [0x1C, 0x71, 0x50, 0x31, 0x34, 0x72, 0x30, 0x32, 0x0D] := by decide +kernel

/-- 07, a make with bounce: closed, open, closed, closed, closed for key 23. -/
theorem test_bounce :
    let s := { State.reset with kr := krReset.putEntry 0 23 ⟨.code 0x41, true⟩ }
    let t := [true, false, true, true, true].foldl (fun s c => takeReading 23 c s) s
    (t.ks.key 23).deb = .down ∧ t.ks.downList = [⟨23, true⟩]
      ∧ t.ks.kq = [⟨23, .make, ⟨false, false, false⟩⟩]
      ∧ t.ks.typematic = some ⟨23, true, 500000⟩ := by decide +kernel

/-- 07, a ghost: keys 12, 15 and 42 down make key 45 a ghost. -/
theorem test_ghost :
    ghost (((ksReset.setDeb 12 .down).setDeb 15 .down).setDeb 42 .down) 45 = true
      ∧ ghost ((ksReset.setDeb 12 .down).setDeb 42 .down) 45 = false := by decide +kernel

/-- 09 R173: readings of a price string. -/
theorem test_prices :
    readEdit .price [0x31, 0x38, 0x2E, 0x39, 0x35] = .num 1895
      ∧ readEdit .price [0x34, 0x32, 0x30, 0x2E, 0x35] = .num 42050
      ∧ readEdit .price [0x31, 0x32, 0x2E] = .num 1200 ∧ readEdit .price [0x2E, 0x35] = .num 50
      ∧ readEdit .price [0x37] = .num 700 ∧ readEdit .price [0x2E] = .empty := by decide +kernel

/-- 09 R182: "    18.95" in 9 columns, and asterisks for "12345.67" in 6. -/
theorem test_printedForm :
    printedForm .price 9 (.num 1895) = [0x20, 0x20, 0x20, 0x20, 0x31, 0x38, 0x2E, 0x39, 0x35]
      ∧ printedForm .price 6 (.num 1234567) = List.replicate 6 0x2A
      ∧ printedForm .qty 4 (.num 12) = [0x20, 0x20, 0x31, 0x32] := by decide +kernel

/-- A field of the worked order of chapter 9. -/
def orderField (id line col width : Nat) (kind : FieldKind) (q p : Nat) : Field :=
  ⟨id, line, col, width, kind, id == 1, false, q, p, [], none⟩

/-- Template 3 of chapter 9. -/
def order : Template where
  font := .std
  lines := [[], [], [], [], [], []]
  fields :=
    [orderField 1 0 10 22 .text 0 0, orderField 2 1 0 4 .qty 0 0, orderField 3 1 6 9 .price 0 0,
     orderField 4 1 20 12 .ext 2 3, orderField 5 2 0 4 .qty 0 0, orderField 6 2 6 9 .price 0 0,
     orderField 7 2 20 12 .ext 5 6, orderField 8 3 20 12 .total 0 0, orderField 9 4 20 12 .tax 0 0,
     orderField 10 5 20 12 .grand 0 0]
  image := []

/-- The worked order filled in, template 3 at a tax rate of 725. -/
def orderFilled : FormInst :=
  recompute order 725 { newInstance order 3 725 with
    vals := [⟨1, .text [0x41], .ctl⟩, ⟨2, .num 12, .key⟩, ⟨3, .num 1895, .key⟩, ⟨4, .empty, .nobody⟩,
      ⟨5, .num 3, .key⟩, ⟨6, .num 42050, .key⟩, ⟨7, .empty, .nobody⟩, ⟨8, .empty, .nobody⟩,
      ⟨9, .empty, .nobody⟩, ⟨10, .empty, .nobody⟩] }

/-- 09, the arithmetic after the last key: 22,740; 126,150; 148,890; 10,795; 159,685. -/
theorem test_order_money :
    (orderFilled.vals.map fun v => v.value).drop 3
      = [.num 22740, .num 3, .num 42050, .num 126150, .num 148890, .num 10795, .num 159685] := by
  decide +kernel

/-- 09 R185: the report of the order is 102 bytes with "ASTRA FOODS", 92 with a name of one code. -/
theorem test_order_report :
    (reportText order 3 orderFilled.vals).length = 92
      ∧ (reportText order 3 orderFilled.vals).take 7 = [0x1C, 0x72, 0x33, 0x30, 0x31, 0x3D, 0x41] := by
  decide +kernel

/-- The part with the worked order OPEN in slot 3. -/
def withOrder : State :=
  { State.reset with fu := { fuReset with
      slots := [none, none, some order, none, none, none, none, none], inst := some orderFilled } }

/-- 11, a slow reader: the read that leaves 90 bytes runs GET FIELD 06, twelve bytes behind them. -/
theorem test_slowReader :
    ∃ t, exec .outputFifoRead { withOrder with port := { portReset with
        out := List.replicate 91 0, frames := [⟨0x34, [0x06]⟩] } } = .next t
      ∧ t.port.out = List.replicate 90 0
          ++ [0x00, 0x0A, 0x06, 0x02, 0x01, 0x01, 0x34, 0x32, 0x30, 0x2E, 0x35, 0x30] := by
  refine ⟨_, rfl, ?_⟩; decide +kernel

/-- 09 R165: a template image of one line and a required TEXT field with label "A", and the same with
a byte behind its end. -/
theorem test_image :
    let img : List Byte := [0, 1, 1, 2, 0x48, 0x49, 1, 0, 3, 4, 0, 1, 0, 0, 1, 0x41, 0xFF]
    decodeImage img = some ⟨.std, [[0x48, 0x49]],
        [⟨1, 0, 3, 4, .text, true, false, 0, 0, [0x41], none⟩], img⟩
      ∧ decodeImage (img ++ [0]) = none := by decide +kernel

/-- Tables 9-1 and 9-2: the image of the worked order, its field records turned about, decodes to it. -/
theorem test_templateImage :
    decodeImage (templateImage order.font order.lines order.fields.reverse)
      = some { order with image := templateImage order.font order.lines order.fields.reverse } := by
  decide +kernel

/-! ### The port and the store (11) -/

/-- 11 R204: reading two bytes from offset 720 on, the last of them not acknowledged. -/
theorem test_readTransaction :
    readTransaction [(720, 0x11), (721, 0x22)] 720 2
      = [.start, .send 0xA0, .send 0x02, .send 0xD0, .start, .send 0xA1,
         .receive 0x11 true, .receive 0x22 false, .stop] := by rfl

/-- 11 R204: an address byte of the mark's read, a wrong mark, an address byte of a later read. -/
theorem test_loadFailure :
    loadFailure true (some 3) [(0, 0xA6)] = some .noAcknowledge
      ∧ loadFailure true (some 4) [] = some .wrongMark
      ∧ loadFailure true (some 11) [(0, 0xA6)] = some .noAcknowledge
      ∧ loadFailure true none [(0, 0xA6)] = none := by decide +kernel

/-- 11 R204 (1), (2): a load with a wrong mark reads the mark alone, and one whose second area is not
acknowledged at its first address byte stops behind that byte. -/
theorem test_loadCutShort :
    storeLines { State.reset with store := { State.reset.store with
        state := .loading false, mem := [(0, 0x11)] } }
      = .reads [[.start, .send 0xA0, .send 0, .send 0, .start, .send 0xA1, .receive 0x11 false, .stop]]
    ∧ (loadDriven true (some 5) [(0, 0xA6)]).map List.length = [23, 3] := by decide +kernel

/-- 07 R148: keys 0 and 10 share column line 0 and key 1 lies on line 1. A line that was closed at
dormant entry is no wake event until its keys have opened; one that closes is. -/
theorem test_wakeLines :
    let s := { State.reset with
      port := { portReset with power := .dormant }
      pe := { peReset with engine := .dormant } }
    (∃ t, exec (.keyWakeClosure 0x400#80 0x001#80) s = .next t ∧ t.port.power = .dormant
        ∧ t.pins.sense = some 0x001#10)
      ∧ (∃ t, exec (.keyWakeClosure 0x402#80 0x001#80) s = .next t ∧ t.port.power = .waking)
      ∧ ∃ t u, exec (.keyWakeClosure 0 0x001#80) s = .next t ∧ t.port.power = .dormant
        ∧ exec (.keyWakeClosure 0x001#80 0x001#80) t = .next u ∧ u.port.power = .waking := by
  refine ⟨⟨_, rfl, ?_⟩, ⟨_, rfl, ?_⟩, _, _, rfl, ?_, rfl, ?_⟩ <;> decide +kernel

/-- 11 R200: a length byte of 64 loses the command stream, one of 63 does not. -/
theorem test_lengthByte :
    (parseByte 64 { portReset with parser := .length 0x23 }).parser = .lost
      ∧ (parseByte 63 { portReset with parser := .length 0x23 }).parser = .payload 0x23 [] 63 := by
  decide +kernel

/-- 11 R202: a notice of three bytes fits at 125 bytes and is lost at 126. -/
theorem test_noticeLost :
    (placeNotice { portReset with out := List.replicate 125 0 } (.holdChange noHold)).out.length = 128
      ∧ (placeNotice { portReset with out := List.replicate 126 0 } (.holdChange noHold)).noticeLost
          = true := by decide +kernel

/-- Table 11-7: field 11 stands as a fifth at byte 21, field 13 shifted by 480 at byte 22, field 22 at
bytes 23 and 24. -/
theorem test_torImage :
    (encodeTor torReset).length = 64 ∧ ((encodeTor torReset).drop 21).take 4 = [40, 50, 0x03, 0x84]
      ∧ decodeTor (encodeTor torReset) = torReset := by decide +kernel

/-! ### Witnesses: states that meet the hypotheses of the statements -/

theorem awake {s : State} (h : (s.pins.resetAsserted || !s.raised.isEmpty) = false) : Awake s := by
  simpa [Awake] using h

theorem portReady {s : State}
    (h : decide ((s.pins.resetAsserted = false ∧ s.raised = []) ∧ s.port.power ≠ .dormant
      ∧ s.port.frames = [] ∧ s.port.parser = .code ∧ s.port.out.length ≤ 90) = true) :
    PortReady s := by
  have k := of_decide_eq_true h
  exact k

theorem commandReady {s : State}
    (h : decide (((s.pins.resetAsserted = false ∧ s.raised = []) ∧ s.port.power ≠ .dormant
      ∧ s.port.frames = [] ∧ s.port.parser = .code ∧ s.port.out.length ≤ 90)
      ∧ s.store.state.isLoading = false) = true) : CommandReady s := by
  have k := of_decide_eq_true h
  exact k

theorem storeIdle {s : State}
    (h : decide (((s.pins.resetAsserted = false ∧ s.raised = []) ∧ s.port.power ≠ .dormant
      ∧ s.port.frames = [] ∧ s.port.parser = .code ∧ s.port.out.length ≤ 90)
      ∧ s.store.state = .idle) = true) : StoreIdle s := by
  have k := of_decide_eq_true h
  exact k

/-- 90 bytes stand in the output FIFO: the last place at which a response fits. -/
def ready : State := { State.reset with port := { portReset with out := List.replicate 90 0 } }

/-- Held by STOPPED. -/
def held : State :=
  { ready with pe := { peReset with engine := .held, hold := { noHold with stopped := true } } }

/-- Held with `n` entries of CTL in the queue. -/
def queued (n : Nat) : State :=
  { held with pq := { pqReset with entries := List.replicate n (feedEntry .ctl 1) } }

/-- RESET is asserted. -/
def asserted : State :=
  { State.reset with pins := { State.reset.pins with resetAsserted := true, paperAbsent := true } }

/-- An image of the store. -/
def image : List Byte := List.replicate 6480 0x5A

/-- A save at a stage and a page. -/
def saving (stage : SaveStage) (page : Nat) : State :=
  { ready with store := { State.reset.store with fitted := true, state := .saving stage page image } }

/-- The store LOADING, with a mark in byte 0. -/
def loading (reload : Bool) : State :=
  { ready with store := { State.reset.store with
      fitted := true, state := .loading reload, mem := [(0, 0xA6)] } }

/-- The part WAKING. -/
def wakingPart : State :=
  { ready with
    port := { ready.port with power := .waking }
    pe := { peReset with engine := .waking } }

/-- The part DORMANT. -/
def dormantPart : State :=
  { State.reset with
    port := { portReset with power := .dormant }
    pe := { peReset with engine := .dormant } }

/-- The port with a parser state and `n` bytes in the output FIFO. -/
def parsing (p : FrameParser) (n : Nat) (frames : List CmdFrame) : State :=
  { State.reset with port := { portReset with
      parser := p, out := List.replicate n 0, frames := frames } }

/-- The link in a state, the engine held, nothing in the queues. -/
def linked (st : LinkState) : State :=
  { held with link := { linkReset with
      state := st, role := .answer, connectWait := some 5, qualify := some 2, holdover := some 1 } }

/-- A TEXT entry of one cell. -/
def textEntry (src : Source) : Entry :=
  ⟨src, .text .std [⟨0x41, false, false, false⟩] false 0, true, false⟩

/-- A row in progress with a phase of two dots. -/
def firing (ext : Bool) (more : List (List Nat)) : Firing :=
  ⟨3, 720, 180, [0, 1] :: more, ext⟩

/-- The engine PRINTING with a row, an entry in print behind it. -/
def printing (row : Row) (bus : Bus) : State :=
  { ready with
    pe := { peReset with engine := .printing, row := row, bus := bus }
    pq := { pqReset with entries := [textEntry .form, feedEntry .far 1], inPrint := true } }

/-- A form instance of the worked order in a phase, with field 3 current. -/
def formIn (phase : FormState) (cur : Option Nat) : State :=
  { withOrder with
    pe := held.pe
    fu := { withOrder.fu with inst := some { orderFilled with phase := phase, current := cur } } }

/-- A key event of key 0 with the entry `e`. -/
def keyed (e : EntryKind) (s : State) : State :=
  { s with
    ks := { ksReset with kq := [⟨0, .make, ⟨false, false, false⟩⟩] }
    kr := krReset.putEntry 0 0 ⟨e, false⟩ }

theorem witness_StepTakesTheFrontCommand :
    ({ ready with pending := [.portClear, .saveWriteDone] } : State).pending = .portClear :: [.saveWriteDone]
      ∧ ready.pending = [] ∧ ready.pins.resetAsserted = false
      ∧ asserted.pending = [] ∧ asserted.pins.resetAsserted = true :=
  ⟨rfl, rfl, rfl, rfl, rfl⟩

theorem witness_ResetAssertAbandonsTransfers :
    (saving .body 202).store.state = .saving .body 202 image
      ∧ (saving .body 202).pins.resetAsserted = false ∧ Memory.wf (saving .body 202).store.mem = true
      ∧ asserted.pins.resetAsserted = true ∧ asserted.store.state.isSaving = false
      ∧ (Instr.commandByteWrite 0x01).wellFormed = true ∧ (Instr.commandByteWrite 0x01) ≠ .paperAbsent :=
  ⟨rfl, by decide +kernel⟩

theorem witness_ResetReleaseGivesResetValues :
    asserted.pins.resetAsserted = true ∧ asserted.pins.paperAbsent = true := by decide +kernel

theorem witness_FrameParserTakesEachByte :
    Awake (parsing .lost 90 [])
      ∧ (Awake (parsing (.payload 0x23 [] 63) 91 [⟨0x23, List.replicate 61 0⟩, ⟨0x23, List.replicate 11 0⟩])
        ∧ (parsing (.payload 0x23 [] 63) 91 [⟨0x23, List.replicate 61 0⟩, ⟨0x23, List.replicate 11 0⟩]).port.commandCount
            = 78)
      ∧ (Awake (parsing (.length 0x23) 91 []) ∧ (parsing (.length 0x23) 91 []).port.commandCount < 80)
      ∧ (Awake (parsing (.payload 0x23 [0x41] 1) 90 [])
        ∧ (parsing (.payload 0x23 [0x41] 1) 90 []).port.power ≠ .dormant
        ∧ (parsing (.payload 0x23 [0x41] 1) 90 []).port.frames = [])
      ∧ (parsing .code 91 [⟨0x23, List.replicate 63 0⟩, ⟨0x23, List.replicate 13 0⟩]).port.commandCount = 80 := by
  refine ⟨awake ?_, ⟨awake ?_, ?_⟩, ⟨awake ?_, ?_⟩, ⟨awake ?_, ?_⟩, ?_⟩ <;> decide +kernel

theorem witness_PortStrobesClearAndRead :
    Awake ready ∧ ready.port.power ≠ .dormant ∧ ready.port.frames = []
      ∧ (Awake (parsing .code 91 [⟨0x01, []⟩]) ∧ (parsing .code 91 [⟨0x01, []⟩]).port.out.length = 91)
      ∧ (parsing .code 92 [⟨0x01, []⟩]).port.frames = [⟨0x01, []⟩] := by
  refine ⟨awake ?_, ?_, ?_, ⟨awake ?_, ?_⟩, ?_⟩ <;> decide +kernel

theorem witness_PortTestsComeBeforeTheCommand :
    (PortReady ready ∧ frameOf (.unknownCommand 0x7F [0x00]) = some (0x7F, [0x00])
        ∧ listedCode 0x7F = false ∧ (Instr.unknownCommand 0x7F [0x00]).wellFormed = true)
      ∧ (PortReady (loading false) ∧ frameOf (.feed [1]) = some (0x12, [1]) ∧ listedCode 0x12 = true)
      ∧ (CommandReady ready ∧ ready.port.power = .run ∧ ([0x00] : List Byte) ≠ []) := by
  refine ⟨⟨portReady ?_, ?_⟩, ⟨portReady ?_, ?_⟩, ⟨commandReady ?_, ?_⟩⟩ <;> decide +kernel

/-- 11 R201: a frame of an unlisted code answers UNKNOWN. -/
theorem test_unknownCommand :
    exec (.unknownCommand 0x7F [0x00]) ready = .next (ready.answered [0x05, 0x00]) := by rfl

theorem witness_StatusReportsTheTenCounts : PortReady (loading true) ∧ PortReady withOrder := by
  refine ⟨portReady ?_, portReady ?_⟩ <;> decide +kernel

theorem witness_SaveStoreBeginsTheErase :
    (CommandReady wakingPart ∧ wakingPart.port.power = .waking)
      ∧ (CommandReady (saving .mark 0) ∧ (saving .mark 0).store.state.isSaving = true)
      ∧ (CommandReady ready ∧ ready.port.power = .run ∧ ready.store.fitted = false)
      ∧ ∃ s : State, CommandReady s ∧ s.port.power = .run ∧ s.store.state = .idle
        ∧ s.store.fitted = true ∧ s.cg.std.length = 32 ∧ s.cg.cond.length = 32 ∧ s.tor.inRange = true := by
  refine ⟨⟨commandReady ?_, ?_⟩, ⟨commandReady ?_, ?_⟩, ⟨commandReady ?_, ?_⟩,
    { ready with store := { ready.store with fitted := true } }, commandReady ?_, ?_⟩ <;> decide +kernel

theorem witness_SaveWritesMarkThenPagesThenMark :
    Awake (saving .body 202) ∧ (saving .body 202).store.state = .saving .body 202 image
      ∧ image.length = 6480 ∧ Memory.wf (saving .body 0).store.mem = true
      ∧ (∀ w, (saving .body 0).dp ≠ .storeWait w)
      ∧ (saving .erase 0).store.state = .saving .erase 0 image
      ∧ (saving .mark 0).store.state = .saving .mark 0 image
      ∧ ∃ write : Nat → List Byte → List BusItem, ∀ a bs,
          write a bs = [.start, .send 0xA0, .send (byteOf (a / 256)), .send (byteOf (a % 256))]
            ++ bs.map BusItem.send ++ [.stop] := by
  refine ⟨awake ?_, ?_, ?_, ?_, ?_, ?_, ?_, writeTransaction, ?_⟩
    <;> first | decide +kernel | rfl | (intros; rfl) | (intros; intro h; cases h)

theorem witness_SaveFailureRaisesStoreFault :
    ∃ s : State, Awake s ∧ s.store.state = .saving .body 202 image ∧ s.port.out.length ≤ 125
      ∧ Memory.wf s.store.mem = true ∧ (∀ w, s.dp ≠ .storeWait w) := by
  refine ⟨{ saving .body 202 with port := { portReset with out := List.replicate 125 0 } },
    awake ?_, ?_, ?_, ?_, ?_⟩ <;> first | decide +kernel | rfl | (intros; intro h; cases h)

theorem witness_StoreLoadEndInstallsOrKeeps :
    Awake (loading true) ∧ (loading true).store.state = .loading true
      ∧ (loading true).port.out.length ≤ 125 ∧ (∀ w, (loading true).dp ≠ .storeWait w)
      ∧ memRead (loading true).store.mem 0 = 0xA6
      ∧ memRead ({ (loading false).store with mem := [] } : StoreUnit).mem 0 ≠ 0xA6#8
      ∧ (∃ k, some 3 = some k ∧ k < 4) ∧ (∃ k, some 11 = some k ∧ k < 12)
      ∧ ¬ (∃ k, some 4 = some k ∧ k < 4) ∧ ¬ (∃ k, some 12 = some k ∧ k < 12)
      ∧ ¬ (∃ k, (none : Option Nat) = some k ∧ k < 4)
      ∧ (loadTransactions true [(0, 0xA6)]).length = 3 ∧ (loadTransactions true []).length = 1 := by
  refine ⟨awake ?_, ?_, ?_, ?_, ?_, ?_, ⟨3, rfl, ?_⟩, ⟨11, rfl, ?_⟩, ?_, ?_, ?_, ?_, ?_⟩ 
    <;> first | decide +kernel | rfl | (intros; intro h; cases h)

theorem witness_DormantEntryAndFirstWakeEvent :
    (CommandReady (linked .listen) ∧ (linked .listen).link.state ≠ .down)
      ∧ (CommandReady ready ∧ ready.link.state = .down ∧ ready.pq.entries = [] ∧ ready.framer.rxf = []
        ∧ ready.framer.flow = [] ∧ ready.framer.data = [] ∧ ready.la.far.cells = []
        ∧ ready.la.far.waiting = [] ∧ ready.la.ctl.cells = [] ∧ ready.la.ctl.waiting = []
        ∧ ready.la.key.cells = [] ∧ ready.la.key.waiting = [] ∧ ready.fu.inst = none
        ∧ ready.pe.engine = .idle ∧ ready.store.state = .idle)
      ∧ (Awake dormantPart ∧ dormantPart.port.power = .dormant ∧ dormantPart.pins.sense = none
        ∧ (∀ c, c < 10 → ((0x200#10).getLsbD c = true ↔ ∃ r, r < 8 ∧ (0x200#80).getLsbD (10 * r + c) = true))
        ∧ (∀ c, c < 10 → ((0x200#10).getLsbD c = true
            ↔ ∃ r, r < 8 ∧ (BitVec.twoPow 80 79).getLsbD (10 * r + c) = true))
        ∧ (∀ c, c < 10 → ((0#10).getLsbD c = true ↔ ∃ r, r < 8 ∧ (0#80).getLsbD (10 * r + c) = true))
        ∧ (∀ c, c < 10 → (0x200#10).getLsbD c = true → (0x200#10).getLsbD c = true)
        ∧ (0x200#10).getLsbD 9 = true ∧ (0#10).getLsbD 9 = false)
      ∧ ({ dormantPart with pins := { dormantPart.pins with sense := some 0#10 } } : State).pins.sense
          = some 0#10 := by
  refine ⟨⟨commandReady ?_, ?_⟩, ⟨commandReady ?_, ?_⟩, ⟨awake ?_, ?_⟩, ?_⟩ <;> decide +kernel

theorem witness_WakingEndDecidesAndReloads :
    Awake wakingPart ∧ wakingPart.port.power = .waking ∧ wakingPart.pe.engine = .waking
      ∧ wakingPart.pq.entries = [] ∧ wakingPart.pe.directFeed = none ∧ wakingPart.pe.hold = noHold
      ∧ wakingPart.port.out.length ≤ 90 := by
  refine ⟨awake ?_, ?_⟩ <;> decide +kernel

theorem witness_WriteIsBroughtIntoRange :
    optClass 7 = some (.numeric 0 255) ∧ optClass 13 = some (.numeric (-480) (-300))
      ∧ optClass 3 = some (.enumerated 7 8) := by decide +kernel

/-- Ready, with a FAR line that holds a cell for 5 s, 48 entries in RXF and a character in flight. -/
def optionBusy (st : LinkState) (level : Int) : State :=
  { linked st with
    link := { (linked st).link with level := some level, gainPending := true }
    framer := { framerReset with rxf := List.replicate 48 ⟨0x41, .none⟩, inFlight := some ⟨0x41, []⟩ }
    la := { laReset with
      far := { emptyLine with cells := [⟨0, ⟨0x41, false, false, false⟩⟩], column := 40 }
      farHoldMs := 5000 } }

/-- The clauses of the statement: the fields that set nothing off, an empty KQ, and for each field
that acts at once a state and a value on either side of its condition. -/
theorem witness_SetOptionActsAtOnce :
    (StoreIdle ready ∧ ready.ks.kq = [] ∧ ready.fu.inst = none)
      ∧ (StoreIdle (optionBusy .online (-400)) ∧ (optionBusy .online (-400)).framer.inFlight ≠ none
        ∧ (optionBusy .online (-400)).framer.flow.length ≤ 1
        ∧ (optionBusy .online (-400)).framer.paused = false
        ∧ 48 ≤ (optionBusy .online (-400)).framer.rxf.length
        ∧ (optionBusy .online (-400)).link.state = .online
        ∧ (optionBusy .online (-400)).tor.nums.getD 11 0 ≠ 1
        ∧ (optionBusy .online (-400)).tor.nums.getD 9 0 ≠ 1
        ∧ (optionBusy .online (-400)).link.gainPending = true)
      ∧ (StoreIdle (optionBusy .listen (-440)) ∧ (optionBusy .listen (-440)).tor.nums.getD 12 0 = -430
        ∧ bringIntoRange 13 (signed16 0xFE 0x48) = some (-440)
        ∧ (optionBusy .listen (-440)).link.level = some (-440)
        ∧ (optionBusy .listen (-440)).pe.engine ≠ .idle
        ∧ (optionBusy .listen (-440)).pe.hold.linkTraining = false)
      ∧ (bringIntoRange 13 (signed16 0xFE 0x71) = some (-399)
        ∧ StoreIdle { optionBusy .online (-400) with link := { (linked .online).link with level := some (-400) } }
        ∧ (linked .online).link.gainPending = false)
      ∧ ((optionBusy .listen 0).la.far.cells ≠ [] ∧ bringIntoRange 21 (signed16 0 4) = some 4
        ∧ 1000 * (4 : Int) < (optionBusy .listen 0).la.farHoldMs
        ∧ ((optionBusy .listen 0).la.farHoldMs : Int) ≤ 1000 * 5
        ∧ (optionBusy .listen 0).pq.entries.length ≤ 39 ∧ (optionBusy .listen 0).pq.pendingBlock = none
        ∧ (optionBusy .listen 0).pq.waitList = [] ∧ (optionBusy .listen 0).la.far.font = none)
      ∧ (StoreIdle withOrder ∧ withOrder.fu.inst = some orderFilled ∧ orderFilled.phase = .opened
        ∧ fieldsApart withOrder.formTemplate.fields = true
        ∧ bringIntoRange 31 (signed16 0x02 0xD5) = some 725) := by
  refine ⟨⟨storeIdle ?_, ?_⟩, ⟨storeIdle ?_, ?_⟩, ⟨storeIdle ?_, ?_⟩, ⟨?_, storeIdle ?_, ?_⟩, ?_,
    storeIdle ?_, ?_⟩ <;> decide +kernel

/-- Table 10-2, 04 R73 and 01 R17: a threshold that falls to the level makes carrier present, and a hold
time below the time counted commits the FAR line. -/
theorem test_optionActs :
    (∃ t, exec (.setOption [13, 0xFE, 0x48]) (optionBusy .listen (-440)) = .next t
      ∧ t.link.state = .qualify ∧ t.pe.hold.linkTraining = true
      ∧ t.port.out.drop 90 = [0x00, 0x03, 13, 0xFE, 0x48, 0x44, 0x02, 0x03, 0x02, 0x4C, 0x01, 0x30])
    ∧ ∃ t, exec (.setOption [21, 0, 4]) (optionBusy .listen 0) = .next t
      ∧ t.la.far = emptyLine ∧ t.pq.entries.length = 1 ∧ t.la.farHoldMs = 0 := by
  refine ⟨⟨_, rfl, ?_⟩, _, rfl, ?_⟩ <;> decide +kernel

theorem witness_SetOptionStoresANumber :
    StoreIdle ready ∧ ready.tor.inRange = true ∧ (31 = 31 → ready.fu.inst.map FormInst.phase ≠ some .pending
        ∧ ready.fu.inst.map FormInst.phase ≠ some .reporting)
      ∧ bringIntoRange 3 (signed16 0x00 0x09) = none
      ∧ bringIntoRange 37 (signed16 0x00 0x05) = some 1
      ∧ bringIntoRange 13 (signed16 0xFF 0x00) = some (-300) := by
  refine ⟨storeIdle ?_, ?_, ?_⟩ <;> decide +kernel

theorem witness_SetOptionTextSetAndRefusals :
    StoreIdle ready ∧ (List.replicate 62 0x7E#8).length ≤ 62
      ∧ (∀ b ∈ List.replicate 62 0x7E#8, 0x20 ≤ b.toNat ∧ b.toNat ≤ 0x7E)
      ∧ (∃ b ∈ [0x41#8, 0x1F#8], b.toNat < 0x20 ∨ 0x7E < b.toNat)
      ∧ (CommandReady (saving .erase 0) ∧ (saving .erase 0).store.state.isSaving = true)
      ∧ (StoreIdle (formIn .pending none)
        ∧ (formIn .pending none).fu.inst.map FormInst.phase = some .pending) := by
  refine ⟨storeIdle ?_, ?_, ?_, ?_, ⟨commandReady ?_, ?_⟩, ⟨storeIdle ?_, ?_⟩⟩ <;> decide +kernel

theorem witness_GetOptionReadsTheRecord :
    PortReady ready ∧ ready.store.state.isLoading = false ∧ ready.tor.inRange = true
      ∧ (PortReady (loading false) ∧ (loading false).store.state.isLoading = true) := by
  refine ⟨portReady ?_, ?_, ?_, portReady ?_, ?_⟩ <;> decide +kernel

/-- A far-end write of field `d1 d2` with the value `v`, its ";" at the head of RXF. -/
def farWriting (d1 d2 : Byte) (v : List Byte) (s : State) : State :=
  { s with
    dp := .args .o ([d1, d2] ++ v)
    framer := { framerReset with rxf := [⟨0x3B, .none⟩] } }

theorem witness_FarOptionWriteIsTakenOrRefused :
    (Awake (farWriting 0x30 0x37 [0x39] ready) ∧ (farWriting 0x30 0x37 [0x39] ready).store.state = .idle
        ∧ (farWriting 0x30 0x37 [0x39] ready).framer.rxf = [⟨0x3B, .none⟩]
        ∧ (farWriting 0x30 0x37 [0x39] ready).framer.paused = false
        ∧ isDigit 0x30 = true ∧ isDigit 0x37 = true ∧ 7 = 10 * digitVal 0x30 + digitVal 0x37
        ∧ torReset.farSet.getLsbD 6 = true ∧ bringIntoRange 7 (signedDigits [0x39]) = some 9)
      ∧ (torReset.farSet.getLsbD 0 = true ∧ bringIntoRange 1 (signedDigits [0x37]) = none
        ∧ torReset.farSet.getLsbD 1 = false
        ∧ (39 : Nat) = 10 * digitVal 0x33 + digitVal 0x39)
      ∧ (setOfBytes [0, 0, 0, 0x40, 0]).getLsbD 30 = true
      ∧ ((farWriting 0x33 0x31 [0x39] withOrder).fu.inst = some orderFilled
        ∧ orderFilled.phase = .opened ∧ torReset.farSet.getLsbD 30 = true
        ∧ bringIntoRange 31 (signedDigits [0x39]) = some 9) := by
  refine ⟨⟨awake ?_, ?_⟩, ?_, ?_, ?_⟩ <;> decide +kernel

/-- A K directive of `d` with its digit at the head of RXF. -/
def keyLocking (d : Byte) (s : State) : State :=
  { s with dp := .args .k [], framer := { framerReset with rxf := [⟨d, .none⟩] } }

/-- A write of the field `n` held in STORE WAIT. -/
def storeWaiting (n : Nat) (v : List Byte) (s : State) : State := { s with dp := .storeWait ⟨n, v⟩ }

/-- K and field 38 with the store IDLE and SAVING, and a held write at each event that ends a save or a
load. -/
theorem witness_FarOptionWriteIsTakenOrRefused_held :
    (Awake (keyLocking 0x31 ready) ∧ (keyLocking 0x31 ready).store.state = .idle
        ∧ torReset.farSet.getLsbD 32 = true ∧ (keyLocking 0x31 ready).ks.kq = []
        ∧ bringIntoRange 33 (signedDigits [0x31]) = some 1)
      ∧ ((38 : Nat) = 10 * digitVal 0x33 + digitVal 0x38 ∧ torReset.farSet.getLsbD 37 = true)
      ∧ (Awake (farWriting 0x33 0x38 [0x41] (saving .body 202))
        ∧ (farWriting 0x33 0x38 [0x41] (saving .body 202)).store.state ≠ .idle)
      ∧ (Awake (storeWaiting 38 [0x41] (saving .mark 202))
        ∧ (storeWaiting 38 [0x41] (saving .mark 202)).store.state = .saving .mark 202 image
        ∧ (storeWaiting 38 [0x41] (saving .mark 202)).port.out.length ≤ 90)
      ∧ (storeWaiting 1 [0x31] (saving .erase 0)).store.state = .saving .erase 0 image
      ∧ ((storeWaiting 39 [0x31] (loading true)).store.state.isLoading = true
        ∧ (storeWaiting 39 [0x31] (loading false)).store.state.isLoading = true) := by
  refine ⟨⟨awake ?_, ?_⟩, ?_, ⟨awake ?_, ?_⟩, ⟨awake ?_, rfl, ?_⟩, rfl, ?_⟩ <;> decide +kernel

/-- 06 R125: K 1 while SAVING waits, and at the end of the mark write field 33 is 1, told by OPTION
CHANGED (33, 1). -/
theorem test_storeWait :
    ∃ t u, exec .directiveByteTake (keyLocking 0x31 (saving .mark 0)) = .next t
      ∧ t.dp = .storeWait ⟨33, [0x31]⟩ ∧ t.tor = torReset
      ∧ exec .saveWriteDone t = .next u ∧ u.dp = .text ∧ u.opt 33 = 1
      ∧ u.port.out.drop 90 = [0x50, 0x03, 0x21, 0x00, 0x01] := by
  refine ⟨_, _, rfl, ?_, ?_, rfl, ?_, ?_, ?_⟩ <;> decide +kernel

theorem witness_OptionRecordImageRoundTrip : torReset.inRange = true := by decide +kernel

/-- Held, with a CTL line that holds one cell, its column at `c`, double or not, and `n` entries. -/
def ctlLine (c : Nat) (dbl : Bool) (n : Nat) : State :=
  { queued n with la := { laReset with ctl :=
      { emptyLine with cells := [⟨0, ⟨0x41, false, false, false⟩⟩], column := c, double := dbl
                       font := some .std } } }

/-- The clauses on the codes of the CTL line: with room at the last column, without it for a double
code, with and without an append, and wrap off. -/
theorem witness_CtlLineTakesCodes :
    ((ctlLine 31 false 39).la.ctl.waiting = [] ∧ (ctlLine 31 false 39).la.ctl.column + 1 ≤ 32
        ∧ (ctlLine 31 true 39).la.ctl.double = true ∧ 32 < (ctlLine 31 true 39).la.ctl.column + 2
        ∧ (ctlLine 31 true 39).tor.nums.getD 19 0 = 1 ∧ (ctlLine 31 true 39).la.ctl.cells ≠ []
        ∧ (ctlLine 31 true 39).pq.entries.length ≤ 39 ∧ (ctlLine 31 true 39).pq.pendingBlock = none
        ∧ (ctlLine 31 true 39).pq.waitList = [] ∧ (ctlLine 31 true 39).pe.engine ≠ .idle)
      ∧ 39 < (ctlLine 31 true 40).pq.entries.length
      ∧ (torReset.put 20 0).nums.getD 19 0 ≠ 1
      ∧ (40 < (ctlLine 0 false 39).pq.entries.length + 2 ∧ (ctlLine 0 false 38).pq.entries.length + 2 ≤ 40)
      ∧ ((0x1F : Byte).toNat < 0x20 ∧ (0x1F : Byte) ∉
          ([0x0A, 0x0C, 0x0D, 0x09, 0x08, 0x0E, 0x0F, 0x16, 0x17] : List Byte))
      ∧ State.reset.la.far.waiting = []
      ∧ (ctlLine 0 false 0).la.ctl.cells.Pairwise (fun p q => p.col < q.col) := by
  refine ⟨?_, ?_, ?_, ?_, ?_, ?_, ?_⟩ <;> decide +kernel

theorem witness_PrintTextOffersEachByte :
    CommandReady ready ∧ ready.la.ctl = emptyLine ∧ (List.replicate 32 0x41#8) ≠ []
      ∧ (List.replicate 32 0x41#8).length ≤ (if ready.tor.nums.getD 17 0 = 0 then 32 else 48)
      ∧ (∀ b ∈ List.replicate 32 0x41#8, 0x20 ≤ b.toNat ∧ b.toNat ≠ 0x7F) := by
  refine ⟨commandReady ?_, ?_⟩ <;> decide +kernel

theorem witness_EndLineCommitsTheCtlLine :
    (CommandReady (queued 39) ∧ (queued 39).pq.entries.length ≤ 39 ∧ (queued 39).pq.pendingBlock = none
        ∧ (queued 39).pq.waitList = [] ∧ (queued 39).pe.engine ≠ .idle)
      ∧ (CommandReady (queued 40) ∧ 39 < (queued 40).pq.entries.length) := by
  refine ⟨⟨commandReady ?_, ?_⟩, ⟨commandReady ?_, ?_⟩⟩ <;> decide +kernel

theorem witness_FeedAppendsOneFeedEntry :
    (CommandReady (queued 40) ∧ 39 < (queued 40).pq.entries.length ∧ (0xFF : Byte) ≠ 0)
      ∧ (CommandReady (queued 39) ∧ (queued 39).pq.entries.length ≤ 39 ∧ (queued 39).pe.engine ≠ .idle
        ∧ (queued 39).pq.pendingBlock = none ∧ (queued 39).pq.waitList = [])
      ∧ (CommandReady ready ∧ ready.pe.engine = .idle ∧ ready.pq.entries = [] ∧ ready.pe.hold = noHold
        ∧ ready.pe.directFeed = none ∧ 50 ≤ ready.pins.vsense) := by
  refine ⟨⟨commandReady ?_, ?_⟩, ⟨commandReady ?_, ?_⟩, ⟨commandReady ?_, ?_⟩⟩ <;> decide +kernel

theorem witness_PurgeRemovesTheNamedSources :
    (CommandReady (queued 2) ∧ (queued 2).pq.inPrint = false ∧ (queued 2).pq.pendingBlock = none
        ∧ (queued 2).pq.waitList = [] ∧ (0x0F : Byte).toNat ≤ 0x0F ∧ 0x0F < (0x10 : Byte).toNat)
      ∧ (CommandReady (printing (.stepPrinted 3) .free) ∧ (printing (.stepPrinted 3) .free).pq.inPrint = true
        ∧ (printing (.stepPrinted 3) .free).pe.row ≠ .idle
        ∧ (printing (.stepPrinted 3) .free).pe.directFeed = none
        ∧ (printing (.stepPrinted 3) .free).pq.entries = [textEntry .form, feedEntry .far 1])
      ∧ ∃ s : State, CommandReady s ∧ s.pq.inPrint = true ∧ s.pe.row = .idle ∧ s.pe.engine = .held
        ∧ s.pe.paperPending = false ∧ s.pq.entries = [textEntry .form] := by
  refine ⟨⟨commandReady ?_, ?_⟩, ⟨commandReady ?_, ?_⟩,
    { held with pq := { pqReset with entries := [textEntry .form], inPrint := true } },
    commandReady ?_, ?_⟩ <;> decide +kernel

theorem witness_PrintStopAndGoMoveStopped :
    (CommandReady held ∧ held.pe.hold.stopped = true ∧ held.pe.engine = .held
        ∧ { held.pe.hold with stopped := false } = noHold ∧ held.pq.entries = []
        ∧ held.pe.directFeed = none)
      ∧ (CommandReady ready ∧ ready.pe.hold.stopped = false ∧ ready.pe.engine = .idle
        ∧ ready.pe.directFeed = none)
      ∧ (CommandReady (printing .stepFeed .free) ∧ (printing .stepFeed .free).pe.engine ≠ .idle
        ∧ (printing .stepFeed .free).pe.hold.stopped = false)
      ∧ (CommandReady (queued 1) ∧ (queued 1).pe.hold.stopped = true ∧ (queued 1).pe.engine = .held
        ∧ { (queued 1).pe.hold with stopped := false } = noHold ∧ (queued 1).pe.directFeed = none
        ∧ (queued 1).pq.entries = feedEntry .ctl 1 :: [] ∧ 50 ≤ (queued 1).pins.vsense
        ∧ (feedEntry .ctl 1).body = .feed 1)
      ∧ (∃ s : State, CommandReady s ∧ s.pe.engine = .held ∧ s.pe.hold.stopped = true
        ∧ { s.pe.hold with stopped := false } = noHold ∧ s.pe.directFeed = none
        ∧ s.pq.entries = textEntry .form :: [] ∧ s.pe.entryRow < Font.std.h ∧ s.pe.forced = true
        ∧ s.pins.vsense < 50) := by
  refine ⟨⟨commandReady ?_, ?_⟩, ⟨commandReady ?_, ?_⟩, ⟨commandReady ?_, ?_⟩, ⟨commandReady ?_, ?_⟩,
    ⟨{ held with
        pq := { pqReset with entries := [textEntry .form] }
        pins := { held.pins with vsense := 49 } }, commandReady ?_, ?_⟩⟩ <;> decide +kernel

theorem witness_LoadCharacterSetsOneGlyph :
    (PortReady (saving .erase 0) ∧ (saving .erase 0).store.state ≠ .idle)
      ∧ (PortReady ready ∧ ready.store.state = .idle ∧ ready.cg.std.length = 32
        ∧ ready.cg.cond.length = 32 ∧ (List.replicate 36 (0xFF : Byte)).length = 36
        ∧ 0x80 ≤ (0x9F : Byte).toNat ∧ (0x9F : Byte).toNat ≤ 0x9F ∧ (0x7F : Byte).toNat < 0x80)
      ∧ (cgReset.load .std 0x9F (List.replicate 36 1)).user .std 0x9F = some (List.replicate 36 1)
      ∧ cgReset.user .cond 0x80 = none ∧ (11 = Font.std.cw - 1 ∧ 15 = Font.cond.h - 1)
      ∧ ((printing (.stepPrinted 3) .free).pq.entries = textEntry .form :: [feedEntry .far 1]
        ∧ (textEntry .form).body = .text .std [⟨0x41, false, false, false⟩] false 0
        ∧ (printing (.stepPrinted 3) .free).pe.entryRow < Font.std.h) := by
  refine ⟨⟨portReady ?_, ?_⟩, ⟨portReady ?_, ?_⟩, ?_⟩ <;> decide +kernel

theorem witness_WidthsFollowSupplyAndTemperature :
    200 ≤ rowExample.wb ∧ rowExample.wb ≤ 2000 ∧ 0 ≤ rowExample.k ∧ rowExample.k ≤ 30
      ∧ 50 ≤ rowExample.h ∧ rowExample.h ≤ 100 := by decide +kernel

theorem witness_PhasesSplitTheRowWithinTheLimit :
    150 ≤ rowExample.r ∧ rowExample.r ≤ 250 ∧ 500 ≤ rowExample.ib ∧ rowExample.ib ≤ 4000
      ∧ 0 ≤ rowExample.itx ∧ rowExample.itx ≤ 500 := by decide +kernel

theorem witness_RowTemperatureSetsCadenceAndHot :
    Awake (printing (.tempWait rowExample) .free) ∧ (printing (.tempWait rowExample) .free).port.out.length ≤ 125
      ∧ (printing (.tempWait rowExample) .free).pe.row = .tempWait rowExample
      ∧ (printing (.tempWait rowExample) .free).pe.bus = .free
      ∧ (printing (.tempWait rowExample) .free).pe.scanWait = none
      ∧ (printing (.tempWait rowExample) .scan).pe.bus ≠ .free
      ∧ (∀ inp, ready.pe.row ≠ .tempWait inp) := by
  refine ⟨awake ?_, ?_, ?_, ?_, ?_, ?_, ?_⟩ <;> first | decide +kernel | rfl | (intros; intro h; cases h)

theorem witness_HeadLoadStrobesThePhase :
    (Awake (printing (.load (firing false [[5]])) .head)
        ∧ (printing (.load (firing false [[5]])) .head).pe.row = .load (firing false [[5]])
        ∧ (firing false [[5]]).phases = [0, 1] :: [[5]])
      ∧ (Awake (printing (.strobe (firing false [])) .free) ∧ 0 < (firing false []).we
        ∧ (∃ i ∈ [0, 1], (printing (.strobe (firing false [])) .free).pe.history.getLsbD i = false))
      ∧ (Awake (printing (.strobe (firing true [[5]])) .free) ∧ (firing true [[5]]).extension = true)
      ∧ (∀ f, ready.pe.row ≠ .load f) ∧ (∀ f, ready.pe.row ≠ .strobe f) := by
  refine ⟨⟨awake ?_, ?_⟩, ⟨awake ?_, ?_⟩, ⟨awake ?_, ?_⟩, ?_, ?_⟩ <;> first | decide +kernel | rfl | (intros; intro h; cases h)

/-- A direct feed at its step, `n` rows left. -/
def fed (n : Nat) (h : HoldSet) : State :=
  { ready with pe := { peReset with
      engine := .feeding, row := .stepFeed, directFeed := some n, hold := h } }

/-- The direct feed goes on from two rows, ends at one, and stands still under HOT. -/
theorem witness_MotorStepEndsTheRow_direct :
    (Awake (fed 2 { noHold with paperOut := true })
        ∧ (fed 2 { noHold with paperOut := true }).pe.row = .stepFeed
        ∧ (fed 2 { noHold with paperOut := true }).port.out.length ≤ 90
        ∧ (fed 2 { noHold with paperOut := true }).pe.engine = .feeding
        ∧ (fed 2 { noHold with paperOut := true }).pe.leverPending = false
        ∧ (fed 2 { noHold with paperOut := true }).pe.directFeed = some 2
        ∧ (fed 2 { noHold with paperOut := true }).pe.hold.hot = false
        ∧ (fed 2 { noHold with paperOut := true }).pe.hold.lowSupply = false
        ∧ (fed 2 { noHold with paperOut := true }).pe.hold.leverUp = false
        ∧ (fed 2 { noHold with paperOut := true }).pe.hold.linkTraining = false)
      ∧ (Awake (fed 1 noHold) ∧ ¬ 2 ≤ 1 ∧ (fed 1 noHold).pe.hold = noHold ∧ (fed 1 noHold).pq.entries = [])
      ∧ (Awake (fed 96 { noHold with hot := true }) ∧ (fed 96 { noHold with hot := true }).pe.hold.hot = true
        ∧ (fed 96 { noHold with hot := true }).pe.hold ≠ noHold) := by
  refine ⟨⟨awake ?_, ?_⟩, ⟨awake ?_, ?_⟩, ⟨awake ?_, ?_⟩⟩ <;> decide +kernel

theorem witness_MotorStepEndsTheRow :
    (Awake ready ∧ ready.pe.row.atStep = false)
      ∧ (Awake (printing (.stepPrinted 3) .free) ∧ (printing (.stepPrinted 3) .free).pe.row.atStep = true
        ∧ (printing (.stepPrinted 3) .free).port.out.length ≤ 90
        ∧ (printing (.stepPrinted 3) .free).pe.engine = .printing
        ∧ (printing (.stepPrinted 3) .free).pe.leverPending = false
        ∧ (printing (.stepPrinted 3) .free).pe.paperPending = false
        ∧ (printing (.stepPrinted 3) .free).pe.directFeed = none
        ∧ (printing (.stepPrinted 3) .free).pq.pendingBlock = none
        ∧ (printing (.stepPrinted 3) .free).pq.waitList = []
        ∧ (printing (.stepPrinted 3) .free).pq.entries = textEntry .form :: [feedEntry .far 1]
        ∧ (printing (.stepPrinted 3) .free).pe.entryRow + 1 < (textEntry .form).body.rows) := by
  refine ⟨⟨awake ?_, ?_⟩, ⟨awake ?_, ?_⟩⟩ <;> decide +kernel

/-- Held by one cause alone. -/
def heldBy (h : HoldSet) : State :=
  { State.reset with pe := { peReset with
      engine := .held, hold := h, paperCount := .running, leverCount := .running } }

theorem witness_HoldMeasurementsReleaseHotAndLowSupply :
    (Awake (heldBy { noHold with hot := true }) ∧ (heldBy { noHold with hot := true }).pe.hold.hot = true
        ∧ (heldBy { noHold with hot := true }).port.out.length ≤ 125
        ∧ (heldBy { noHold with hot := true }).pe.engine = .held
        ∧ (heldBy { noHold with hot := true }).pq.entries = [])
      ∧ (Awake (heldBy { noHold with lowSupply := true })
        ∧ (heldBy { noHold with lowSupply := true }).pe.hold.lowSupply = true)
      ∧ ready.pe.hold.hot = false ∧ ready.pe.hold.lowSupply = false := by
  refine ⟨⟨awake ?_, ?_⟩, ⟨awake ?_, ?_⟩, ?_⟩ <;> decide +kernel

theorem witness_PaperReportsActAtTheEntrysEnd :
    (Awake ready ∧ ready.port.power = .run ∧ ready.pe.hold.paperOut = false ∧ ready.pq.inPrint = false
        ∧ ready.pe.engine = .idle ∧ ready.pe.directFeed = none ∧ ready.pe.paperCount ≠ .running)
      ∧ (printing .stepFeed .free).pq.inPrint = true
      ∧ (Awake (heldBy { noHold with paperOut := true })
        ∧ (heldBy { noHold with paperOut := true }).pe.paperCount = .running
        ∧ (heldBy { noHold with paperOut := true }).pe.engine = .held
        ∧ (heldBy { noHold with paperOut := true }).pq.entries = []) := by
  refine ⟨⟨awake ?_, ?_⟩, ?_, ⟨awake ?_, ?_⟩⟩ <;> decide +kernel

theorem witness_LeverReportsActAtTheRowBoundary :
    (Awake ready ∧ ready.port.power = .run ∧ ready.pe.hold.leverUp = false ∧ ready.pe.row = .idle
        ∧ ready.pe.engine = .idle ∧ ready.pe.leverCount ≠ .running)
      ∧ (printing .stepFeed .free).pe.row ≠ .idle
      ∧ (Awake (heldBy { noHold with leverUp := true })
        ∧ (heldBy { noHold with leverUp := true }).pe.leverCount = .running
        ∧ (heldBy { noHold with leverUp := true }).pe.engine = .held) := by
  refine ⟨⟨awake ?_, ?_⟩, ?_, ⟨awake ?_, ?_⟩⟩ <;> decide +kernel

/-- A line waits with one entry. -/
def waitingLine (nm : LineName) (n : Nat) : State :=
  { (queued n).putLine nm { emptyLine with waiting := [textEntry .far] } with
    pq := { (queued n).pq with waitList := [nm] } }

theorem witness_WaitListServiceKeepsItsOrder :
    (Awake (waitingLine .far 39) ∧ (waitingLine .far 39).pe.engine ≠ .idle
        ∧ (waitingLine .far 39).pq.waitList = [.far]
        ∧ (waitingLine .far 39).pq.entries.length + (waitingLine .far 39).la.far.waiting.length = 40)
      ∧ (∀ c e r, (waitingLine .far 39).dp ≠ .offer c e r)
      ∧ ((waitingLine .key 39).pq.waitList = [.key] ∧ (waitingLine .key 39).fu.keyOut = [])
      ∧ (40 < (waitingLine .far 40).pq.entries.length + ((waitingLine .far 40).line .far).waiting.length
        ∧ (waitingLine .far 40).pq.entries.length ≤ 40)
      ∧ (∃ s : State, Awake s ∧ s.pe.engine ≠ .idle ∧ s.pq.pendingBlock = some [feedEntry .form 48]
        ∧ s.pq.entries.length = 39 ∧ s.pq.waitList = [] ∧ s.tor.nums.getD 36 0 = 0
        ∧ s.fu.inst.isSome = true ∧ s.port.out.length ≤ 122)
      ∧ ∃ s : State, Awake s ∧ s.la.far.cells ≠ [] ∧ s.tor.nums.getD 20 0 ≠ 0
        ∧ s.pq.entries.length = 39 ∧ s.pq.pendingBlock = none ∧ s.pq.waitList = [] := by
  refine ⟨⟨awake ?_, ?_⟩, ?_, ?_, ?_,
    ⟨{ queued 39 with
        pq := { (queued 39).pq with pendingBlock := some [feedEntry .form 48] }
        fu := (formIn .pending none).fu, tor := torReset.put 37 0 }, awake ?_, ?_⟩,
    ⟨{ queued 39 with la := { laReset with far := { emptyLine with
        cells := [⟨0, ⟨0x41, false, false, false⟩⟩] } } }, awake ?_, ?_⟩⟩
    <;> first | decide +kernel | rfl | (intros; intro h; cases h)

theorem witness_LinkStartTakesTheRole :
    (CommandReady wakingPart ∧ wakingPart.port.power = .waking)
      ∧ (CommandReady (linked .listen) ∧ (linked .listen).port.power = .run
        ∧ (linked .listen).link.state ≠ .down)
      ∧ (CommandReady ready ∧ ready.port.power = .run ∧ ready.link.state = .down) := by
  refine ⟨⟨commandReady ?_, ?_⟩, ⟨commandReady ?_, ?_⟩, ⟨commandReady ?_, ?_⟩⟩ <;> decide +kernel

theorem witness_LinkDropTakesTheLinkDown :
    (CommandReady ready ∧ ready.link.state = .down)
      ∧ (CommandReady (linked .answering) ∧ (linked .answering).link.state = .answering)
      ∧ (CommandReady (linked .qualify) ∧ (linked .qualify).link.state = .qualify
        ∧ 50 ≤ (linked .qualify).pins.vsense)
      ∧ (CommandReady (linked .fade) ∧ (linked .fade).link.state = .fade
        ∧ (linked .fade).la.far.cells = []
        ∧ (linked .fade).fu.inst.map FormInst.phase ≠ some .reporting) := by
  refine ⟨⟨commandReady ?_, ?_⟩, ⟨commandReady ?_, ?_⟩, ⟨commandReady ?_, ?_⟩, ⟨commandReady ?_, ?_⟩⟩
    <;> decide +kernel

/-- ONLINE with `n` data bytes in TXQ and a character in flight or not. -/
def sending (n : Nat) (fly : Option TxChar) (b : BreakSend) : State :=
  { linked .online with
    link := { (linked .online).link with breakSend := b }
    framer := { framerReset with data := List.replicate n 0x41, inFlight := fly } }

theorem witness_SendAddsItsBytesWhole :
    PortReady (loading false)
      ∧ (PortReady (sending 95 none .none) ∧ (sending 95 none .none).link.state = .online
        ∧ (sending 95 none .none).framer.data.length + (List.replicate 63 (0 : Byte)).length = 158)
      ∧ 158 < (sending 96 none .none).framer.data.length + 63
      ∧ (sending 95 (some ⟨0, []⟩) .none).framer.inFlight ≠ none
      ∧ (sending 95 none .none).framer.flow = [] ∧ (sending 95 none .none).framer.farPaused = false
      ∧ (sending 95 none .none).framer.data ++ [0] = 0x41 :: (List.replicate 94 0x41 ++ [0])
      ∧ (∀ r, (sending 95 none .none).dp ≠ .replyWait r) ∧ ready.link.state ≠ .online := by
  refine ⟨portReady ?_, ⟨portReady ?_, ?_⟩, ?_, ?_, ?_, ?_, ?_, ?_, ?_⟩ <;> first | decide +kernel | rfl | (intros; intro h; cases h)

theorem witness_SendBreakIsAcceptedOnceOnline :
    (CommandReady (sending 0 none .none) ∧ (sending 0 none .none).link.state = .online
        ∧ (sending 0 none .none).link.breakSend = .none)
      ∧ (CommandReady (sending 0 none .sending) ∧ (sending 0 none .sending).link.breakSend ≠ .none) := by
  refine ⟨⟨commandReady ?_, ?_⟩, ⟨commandReady ?_, ?_⟩⟩ <;> decide +kernel

theorem witness_TransmitterTakesTheNextByte :
    (Awake (sending 1 (some ⟨0x41, []⟩) .none) ∧ (sending 1 (some ⟨0x41, []⟩) .none).framer.inFlight ≠ none
        ∧ (sending 1 (some ⟨0x41, []⟩) .none).link.breakSend = .none
        ∧ (sending 1 (some ⟨0x41, []⟩) .none).framer.flow = []
        ∧ (sending 1 (some ⟨0x41, []⟩) .none).framer.farPaused = false
        ∧ (sending 1 (some ⟨0x41, []⟩) .none).framer.data = [0x41]
        ∧ 7 ≤ torReset.nums.getD 2 0 ∧ torReset.nums.getD 4 0 = 1)
      ∧ (Awake (sending 0 none .sending) ∧ (sending 0 none .sending).framer.inFlight = none
        ∧ (sending 0 none .sending).link.breakSend = .sending)
      ∧ (sending 0 (some ⟨0x41, []⟩) .waiting).link.breakSend = .waiting
      ∧ ({ framerReset with flow := [0x13] } : Framer).flow = 0x13 :: [] := by
  refine ⟨⟨awake ?_, ?_⟩, ⟨awake ?_, ?_⟩, ?_⟩ <;> decide +kernel

/-- HELD by LINK TRAINING alone in QUALIFY, with entries and a level at VSENSE. -/
def training (es : List Entry) (v : Nat) : State :=
  { linked .qualify with
    pe := { peReset with engine := .held, hold := { noHold with linkTraining := true } }
    pq := { pqReset with entries := es }
    pins := { ready.pins with vsense := v } }

theorem witness_CarrierMovesTheLink_held :
    (Awake (training [] 60) ∧ (training [] 60).link.state = .qualify
        ∧ (training [] 60).pe.hold.linkTraining = true ∧ (training [] 60).pe.engine = .held
        ∧ { (training [] 60).pe.hold with linkTraining := false } = noHold
        ∧ (training [] 60).pe.directFeed = none ∧ (training [] 60).port.out.length ≤ 90
        ∧ (training [] 60).pq.entries = [])
      ∧ ((training [textEntry .far] 50).pq.entries = textEntry .far :: []
        ∧ (training [textEntry .far] 50).pe.entryRow < Font.std.h
        ∧ (training [textEntry .far] 50).pe.forced = true ∧ (training [textEntry .far] 50).pins.vsense = 50)
      ∧ (training [feedEntry .far 1] 49).pins.vsense < 50
      ∧ (ready.pe.engine = .idle ∧ ready.pe.directFeed = none
        ∧ ({ ready with link := (linked .listen).link } : State).link.state = .listen) := by
  refine ⟨⟨awake ?_, ?_⟩, ?_, ?_, ?_⟩ <;> decide +kernel

theorem witness_CarrierMovesTheLink :
    (Awake (linked .listen) ∧ (linked .listen).port.out.length ≤ 90 ∧ (linked .listen).pe.engine ≠ .idle
        ∧ (linked .listen).tor.nums.getD 12 0 ≤ -430 ∧ (linked .listen).pe.hold.linkTraining = false)
      ∧ (linked .online).link.state = .online ∧ (-431 : Int) < (linked .online).tor.nums.getD 12 0
      ∧ (∃ s : State, Awake s ∧ s.link.state = .qualify ∧ s.pe.engine = .printing
        ∧ s.pe.hold.linkTraining = true ∧ s.port.out.length ≤ 90)
      ∧ held.link.state = .down ∧ (linked .fade).link.state = .fade := by
  refine ⟨⟨awake ?_, ?_⟩, ?_, ?_,
    ⟨{ printing .stepFeed .free with
        link := (linked .qualify).link
        pe := { (printing .stepFeed .free).pe with hold := { noHold with linkTraining := true } } },
      awake ?_, ?_⟩, ?_, ?_⟩ <;> decide +kernel

theorem witness_LinkTimersExpire :
    (Awake (linked .qualify) ∧ (linked .qualify).port.out.length ≤ 90
        ∧ (linked .qualify).link.gainPending = false ∧ (linked .qualify).link.connectWait ≠ none
        ∧ (linked .qualify).link.qualify ≠ none ∧ 50 ≤ (linked .qualify).pins.vsense)
      ∧ (Awake (linked .fade) ∧ (linked .fade).link.holdover ≠ none ∧ (linked .fade).la.far.cells = []
        ∧ (linked .fade).fu.inst.map FormInst.phase ≠ some .reporting)
      ∧ (Awake ready ∧ ready.link.connectWait = none ∧ ready.link.state = .down) := by
  refine ⟨⟨awake ?_, ?_⟩, ⟨awake ?_, ?_⟩, ⟨awake ?_, ?_⟩⟩ <;> decide +kernel

/-- ONLINE, a character being assembled, with `n` entries in RXF. -/
def receiving (n : Nat) : State :=
  { linked .online with
    framer := { framerReset with
      rx := .assembling ⟨7, 1, 1⟩, rxf := List.replicate n ⟨0x41, .none⟩ } }

theorem witness_ReceivedCharacterEntersRxf :
    (Awake (receiving 63) ∧ (receiving 63).framer.rx = .assembling ⟨7, 1, 1⟩
        ∧ (receiving 63).port.out.length ≤ 126 ∧ (receiving 63).framer.rxf.length < 64
        ∧ (receiving 63).link.gainPending = false ∧ (receiving 63).link.errCount ≤ 99)
      ∧ 64 ≤ (receiving 64).framer.rxf.length ∧ (∀ f, ready.framer.rx ≠ .assembling f)
      ∧ (byteOf ((receiving 0).tor.nums.getD 6 0).toNat = 0x13 ∧ (receiving 0).tor.nums.getD 8 0 = 1) := by
  refine ⟨⟨awake ?_, ?_⟩, ?_, ?_, ?_⟩ <;> first | decide +kernel | rfl | (intros; intro h; cases h)

/-- The same premises with a gain change pending. -/
theorem witness_ReceivedCharacterEntersRxf_pending :
    let s := { receiving 63 with link := { (receiving 63).link with gainPending := true } }
    Awake s ∧ s.framer.rx = .assembling ⟨7, 1, 1⟩ ∧ s.port.out.length ≤ 126
      ∧ s.framer.rxf.length < 64 ∧ s.link.gainPending = true ∧ s.link.errCount ≤ 99 := by
  refine ⟨awake ?_, ?_⟩ <;> decide +kernel

/-- The entry that makes 48: the pause code with the transmitter free, and behind two flow codes. -/
theorem witness_ReceivedCharacterEntersRxf_pause :
    (Awake (receiving 47) ∧ (receiving 47).tor.nums.getD 5 0 = 1 ∧ (receiving 47).framer.paused = false
        ∧ (receiving 47).link.state = .online ∧ (receiving 47).framer.inFlight = none
        ∧ (receiving 47).link.breakSend = .none ∧ (receiving 47).framer.flow = [])
      ∧ ∃ s : State, Awake s ∧ s.framer.rx = .assembling ⟨7, 1, 1⟩ ∧ s.framer.rxf.length = 47
        ∧ s.framer.flow = [0x11, 0x13] ∧ s.framer.inFlight ≠ none := by
  refine ⟨⟨awake ?_, ?_⟩, ⟨{ receiving 47 with framer := { (receiving 47).framer with
    flow := [0x11, 0x13], inFlight := some ⟨0x41, []⟩ } }, awake ?_, ?_⟩⟩ <;> decide +kernel

/-- 05 R106: of two flow codes waiting the older goes as the pause code is placed. -/
theorem test_flowCodes :
    ∃ t, exec (.characterReceived 0x41 false true (-300)) { receiving 47 with
        framer := { (receiving 47).framer with flow := [0x11, 0x13], inFlight := some ⟨0x41, []⟩ } }
          = .next t
      ∧ t.framer.flow = [0x13, 0x13] ∧ t.framer.paused = true := by
  refine ⟨_, rfl, ?_⟩; decide +kernel

/-- ONLINE with a space run that is a break pending run, or a framer that is READY. -/
def spaced (run : Option Framing) (brk : Bool) : State :=
  { linked .online with
    link := { (linked .online).link with spaceRun := run, breakPending := brk }
    framer := { framerReset with rx := if run.isNone then .ready else .waitMark } }

theorem witness_SpaceRunsMakeBreaksAndDisconnects :
    (Awake (spaced none false) ∧ (spaced none false).link.state = .online
        ∧ (spaced none false).framer.rx = .ready ∧ (spaced none false).link.spaceRun = none
        ∧ (spaced none false).link.breakPending = false)
      ∧ (Awake (spaced (some ⟨7, 1, 1⟩) true) ∧ (spaced (some ⟨7, 1, 1⟩) true).link.spaceRun ≠ none
        ∧ (spaced (some ⟨7, 1, 1⟩) true).link.breakPending = true
        ∧ (spaced (some ⟨7, 1, 1⟩) true).framer.paused = false
        ∧ (spaced (some ⟨7, 1, 1⟩) true).pq.inPrint = false
        ∧ (spaced (some ⟨7, 1, 1⟩) true).pq.waitList = []
        ∧ (spaced (some ⟨7, 1, 1⟩) true).port.out.length ≤ 90)
      ∧ ready.link.state ≠ .online := by
  refine ⟨⟨awake ?_, ?_⟩, ⟨awake ?_, ?_⟩, ?_⟩ <;> decide +kernel

/-- The bus granted to the scan of row 7, key 79 in a debounce state, `n` keys in the down list. -/
def scanned (d : Debounce) (n : Nat) : State :=
  { ready with
    pe := { peReset with bus := .scan }
    ks := { ksReset.setDeb 79 d with
      rowPtr := 7, downList := (List.range n).map fun k => ⟨k, false⟩ } }

theorem witness_KeyRowScanDebouncesEachKey :
    (Awake ready ∧ ready.port.power ≠ .dormant ∧ ready.store.state.isLoading = false
        ∧ ready.pe.scanWait = none ∧ ready.pe.bus ≠ .scan ∧ ready.ks.typematic = none)
      ∧ (Awake (scanned (.makePending 1) 0) ∧ (scanned (.makePending 1) 0).pe.bus = .scan
        ∧ (scanned (.makePending 1) 0).ks.keys.length = 80 ∧ (scanned (.makePending 1) 0).ks.rowPtr < 8
        ∧ (scanned (.makePending 1) 0).ks.due = false
        ∧ ((scanned (.makePending 1) 0).ks.key 79).deb = .makePending 1)
      ∧ (Awake (scanned (.makePending 2) 5) ∧ ((scanned (.makePending 2) 5).ks.key 79).deb = .makePending 2
        ∧ ghost (scanned (.makePending 2) 5).ks 79 = false
        ∧ ((scanned (.makePending 2) 5).kr.entry .base 79).kind = .nothing
        ∧ (scanned (.makePending 2) 5).ks.downList.length < 6
        ∧ (scanned (.makePending 2) 5).ks.kq.length < 16
        ∧ (∀ d, d < 10 → d ≠ 9 → ((scanned (.makePending 2) 5).ks.key (70 + d)).deb = .up
            ∧ ((scanned (.makePending 2) 5).ks.key (70 + d)).releaseRequired = false
            ∧ (0x200#10).getLsbD d = false))
      ∧ 6 ≤ (scanned (.makePending 2) 6).ks.downList.length
      ∧ ((scanned (.breakPending 2) 0).ks.key 79).deb = .breakPending 2 := by
  refine ⟨⟨awake ?_, ?_⟩, ⟨awake ?_, ?_⟩, ⟨awake ?_, ?_⟩, ?_⟩ <;> decide +kernel

/-- Keys 78, 68 and 69 down beside key 79 at its make, KQ full, key 79 a SHIFT or not. -/
def crowded (d : Debounce) (e : EntryKind) (due : Bool) : State :=
  { scanned d 0 with
    kr := krReset.putEntry 0 79 ⟨e, false⟩
    ks := { ((((scanned d 0).ks.setDeb 78 .down).setDeb 68 .down).setDeb 69 .down) with
      kq := List.replicate 16 ⟨3, .make, ⟨false, false, false⟩⟩
      due := due, typematic := if due then some ⟨79, false, 500⟩ else none } }

/-- The clauses on one key of the row: the rectangle at column 8 and row 6, a modifier, a KQ of 16, and
the REPEAT of a due typematic timer. -/
theorem witness_KeyRowScanDebouncesEachKey_events :
    (Awake (crowded (.makePending 2) .nothing false) ∧ (crowded (.makePending 2) .nothing false).pe.bus = .scan
        ∧ (crowded (.makePending 2) .nothing false).ks.keys.length = 80
        ∧ (crowded (.makePending 2) .nothing false).ks.rowPtr = 7
        ∧ (∀ d, d < 10 → d ≠ 9 →
          (((crowded (.makePending 2) .nothing false).ks.key (70 + d)).deb = .up
            ∧ ((crowded (.makePending 2) .nothing false).ks.key (70 + d)).releaseRequired = false
            ∧ (0x300#10).getLsbD d = false)
          ∨ (((crowded (.makePending 2) .nothing false).ks.key (70 + d)).deb = .down
            ∧ (0x300#10).getLsbD d = true))
        ∧ (∀ j ∈ [78, 68, 69], ((crowded (.makePending 2) .nothing false).ks.key j).deb = .down)
        ∧ (crowded (.makePending 2) .nothing false).ks.due = false
        ∧ ((crowded (.makePending 2) .nothing false).ks.key 79).deb = .makePending 2
        ∧ (0x300#10).getLsbD 9 = true)
      ∧ ((scanned (.makePending 2) 0).ks.keys.all (fun q => q.deb != .down) = true
        ∧ (krReset.putEntry 0 79 ⟨.action .shift, false⟩).entry .base 79 = ⟨.action .shift, false⟩
        ∧ (scanned (.makePending 2) 0).port.out.length ≤ 124
        ∧ (16 ≤ (crowded (.makePending 2) .nothing false).ks.kq.length))
      ∧ ((crowded .down .nothing true).ks.due = true
        ∧ (crowded .down .nothing true).ks.typematic = some ⟨79, false, 500⟩
        ∧ ((crowded .down .nothing true).ks.key 79).deb = .down
        ∧ ((crowded (.breakPending 1) .nothing true).ks.key 79).deb = .breakPending 1
        ∧ (0x100#10).getLsbD 9 = false) := by
  refine ⟨⟨awake ?_, ?_⟩, ?_, ?_⟩ <;> decide +kernel

/-- The key `k` of the down list repeats into a full KQ: KEY OVERRUN with the kind 1 (07 R144, R146). -/
theorem test_repeatOverrun :
    ∃ t, exec (.keyRowScan 0x300#10) (crowded .down .nothing true) = .next t ∧ t.ks.kqOverrun = true
      ∧ t.ks.due = false ∧ t.port.out.drop 90 = [0x49, 0x02, 79, 0x01] := by
  refine ⟨_, rfl, ?_⟩; decide +kernel

/-- Key 0 with an action, the modifiers of each layer. -/
def acting (a : Action) (s : State) : State := keyed (.action a) s

/-- The clauses on actions, each with a state that meets its premises: BREAK, FEED, ORIG and ANS, DROP,
the lock, a waiting KEY line, FIELD NEXT and BACK, and the form actions. -/
theorem witness_KeyEventIsLookedUpAndDelivered_actions :
    (Awake (acting .shift ready) ∧ (acting .shift ready).ks.kq = [⟨0, .make, ⟨false, false, false⟩⟩]
        ∧ (acting .shift ready).port.out.length ≤ 90
        ∧ ((acting .shift ready).kr.entry .base 0).kind = .action .shift)
      ∧ ((acting .breakKey (sending 0 none .none)).link.state = .online
        ∧ (acting .breakKey (sending 0 none .none)).link.breakSend = .none
        ∧ (acting .breakKey (sending 0 none .sending)).link.breakSend ≠ .none)
      ∧ (((acting .feedKey ready).pe.engine = .idle ∧ (acting .feedKey ready).pe.hold = noHold)
        ∧ ((acting .feedKey held).pe.engine = .held ∧ (acting .feedKey held).pe.hold.stopped = true
          ∧ (acting .feedKey held).pe.hold.hot = false ∧ (acting .feedKey held).pe.hold.lowSupply = false
          ∧ (acting .feedKey held).pe.hold.leverUp = false
          ∧ (acting .feedKey held).pe.hold.linkTraining = false ∧ 50 ≤ (acting .feedKey held).pins.vsense)
        ∧ ((acting .feedKey (printing .stepFeed .free)).pe.engine ≠ .idle
          ∧ (acting .feedKey (printing .stepFeed .free)).pe.engine ≠ .held))
      ∧ ((acting .ans ready).link.state = .down ∧ (acting .ans ready).port.power ≠ .waking
        ∧ (acting .ans ready).store.state.isLoading = false
        ∧ (acting .orig (linked .listen)).link.state ≠ .down)
      ∧ ((acting .drop ready).link.state = .down ∧ (acting .drop (linked .listen)).link.state = .listen
        ∧ (acting .drop (linked .fade)).link.state = .fade
        ∧ (acting .drop (linked .fade)).la.far.cells = []
        ∧ (acting .drop (linked .fade)).fu.inst.map FormInst.phase ≠ some .reporting)
      ∧ ((torReset.put 33 1).nums.getD 32 0 = 1 ∧ torReset.nums.getD 32 0 ≠ 1)
      ∧ ((waitingLine .key 0).la.key.waiting ≠ [] ∧ formState (waitingLine .key 0) = .closed
        ∧ formState (acting .formEnter (formIn .opened (some 3))) = .opened
        ∧ (formIn .opened (some 3)).la.key.waiting = [])
      ∧ (Awake (acting .fieldNext (formIn .opened (some 3)))
        ∧ formState (acting .fieldNext (formIn .pending none)) ≠ .opened
        ∧ KeyLineQuiet (formIn .opened (some 3)) ∧ (torReset.put 36 0).nums.getD 35 0 = 0
        ∧ ((formIn .opened (some 3)).formTemplate.fields.filter
            fun f => f.kind.entered && !f.protect).map Field.id = [1] ++ 2 :: 3 :: [5, 6]
        ∧ ((formIn .opened (some 3)).formTemplate.fields.filter
            fun f => f.kind.entered && !f.protect).getLast? = some (orderField 6 2 6 9 .price 0 0)
        ∧ [1, 2, 3, 5, 6].Nodup) := by
  refine ⟨⟨awake ?_, ?_⟩, ?_, ?_, ?_, ?_, ?_, ?_, awake ?_, ?_, ⟨?_, ?_, ?_⟩, ?_⟩ <;> decide +kernel

/-- Two events whose codes are told, and behind them one that stays, for the KEY line waits. -/
def twoEvents : State :=
  { (waitingLine .key 0) with
    tor := torReset.put 32 1
    ks := { ksReset with kq := [⟨0, .make, ⟨false, false, false⟩⟩, ⟨0, .repeated, ⟨false, false, false⟩⟩,
      ⟨1, .make, ⟨false, false, false⟩⟩] }
    kr := (krReset.putEntry 0 0 ⟨.code 0x41, true⟩).putEntry 0 1 ⟨.action (.openForm 2), false⟩ }

theorem witness_KeyEventIsLookedUpAndDelivered_several :
    Awake twoEvents ∧ twoEvents.fu.inst = none ∧ twoEvents.port.out.length + 6 * 2 ≤ 128
      ∧ twoEvents.ks.kq = [⟨0, .make, ⟨false, false, false⟩⟩, ⟨0, .repeated, ⟨false, false, false⟩⟩]
          ++ [⟨1, .make, ⟨false, false, false⟩⟩]
      ∧ twoEvents.tor.nums.getD 32 0 = 0 ∧ twoEvents.tor.nums.getD 0 0 = 0
      ∧ twoEvents.tor.nums.getD 31 0 = 1 ∧ (twoEvents.kr.entry .base 0).kind = .code 0x41
      ∧ (twoEvents.kr.entry .base 1).kind = .action (.openForm 2) ∧ twoEvents.la.key.waiting ≠ [] := by
  refine ⟨awake ?_, ?_⟩ <;> decide +kernel

/-- 03 R65 and 08 R160: the FEED key begins a direct feed of 96 rows; two events are taken and the
third stays. -/
theorem test_feedKeyAndEvents :
    (∃ t, exec .keyEventExamine (acting .feedKey held) = .next t ∧ t.pe.directFeed = some 96
        ∧ t.pe.engine = .feeding ∧ t.ks.kq = [])
      ∧ ∃ t, exec .keyEventExamine twoEvents = .next t ∧ t.ks.kq.map KeyEvent.key = [1]
        ∧ (t.port.out.drop 90).length = 12 := by
  refine ⟨⟨_, rfl, ?_⟩, _, rfl, ?_⟩ <;> decide +kernel

theorem witness_KeyEventIsLookedUpAndDelivered :
    (Awake ready ∧ ready.ks.kq = [])
      ∧ (Awake (keyed (.code 0x41) ready)
        ∧ (keyed (.code 0x41) ready).ks.kq = [⟨0, .make, ⟨false, false, false⟩⟩]
        ∧ (keyed (.code 0x41) ready).fu.inst = none
        ∧ ((keyed (.code 0x41) ready).kr.entry .base 0).kind = .code 0x41
        ∧ (keyed (.code 0x41) ready).tor.nums.getD 32 0 = 0
        ∧ (keyed (.code 0x41) ready).tor.nums.getD 0 0 = 0
        ∧ (keyed (.code 0x41) ready).kr.localFlag = false
        ∧ (keyed (.code 0x41) ready).la.key = emptyLine)
      ∧ ((keyed .nothing ready).kr.entry .base 0).kind = .nothing
      ∧ ((keyed (.action .localKey) ready).kr.entry .base 0).kind = .action .localKey
      ∧ (((keyed (.action .orig) ready).kr.entry .base 0).kind = .action .orig
        ∧ ready.link.state = .down ∧ ready.port.power = .run ∧ ready.store.state.isLoading = false)
      ∧ (158 ≤ (sending 158 (some ⟨0, []⟩) .none).framer.data.length
        ∧ (sending 157 (some ⟨0, []⟩) .none).framer.data.length < 158)
      ∧ ((torReset.put 32 2).nums.getD 31 0 = 2 ∧ (sending 157 (some ⟨0, []⟩) .none).link.state = .online
        ∧ (sending 157 (some ⟨0, []⟩) .none).framer.inFlight ≠ none) := by
  refine ⟨⟨awake ?_, ?_⟩, ⟨awake ?_, ?_⟩, ?_⟩ <;> decide +kernel

theorem witness_LoadKeymapReplacesOneEntry :
    (PortReady (loading false) ∧ (loading false).store.state ≠ .idle)
      ∧ (PortReady ready ∧ ready.store.state = .idle ∧ ready.kr.keymap.length = 320
        ∧ (79 : Byte).toNat ≤ 79 ∧ (3 : Byte).toNat ≤ 3
        ∧ (0x82 : Byte) ∈ ([0x00, 0x01, 0x02, 0x80, 0x81, 0x82] : List Byte)
        ∧ (0x17 : Byte).toNat ≤ 0x17 ∧ 0x17 < (0x18 : Byte).toNat) := by
  refine ⟨⟨portReady ?_, ?_⟩, ⟨portReady ?_, ?_⟩⟩ <;> decide +kernel

/-- The parser in a state, with one entry in RXF. -/
def parsed (p : Parser) (b : Byte) (e : ErrKind) : State :=
  { linked .fade with pe := peReset, dp := p, framer := { framerReset with rxf := [⟨b, e⟩] } }

theorem witness_DirectiveParserTakesOneEntry :
    (Awake ready ∧ ready.framer.rxf = [] ∧ ready.dp ≠ .intro)
      ∧ (Awake (parsed .text 0x1C .none) ∧ (parsed .text 0x1C .none).framer.paused = false
        ∧ (parsed .text 0x1C .none).framer.rxf = [⟨0x1C, .none⟩] ∧ (parsed .text 0x1C .none).dp = .text
        ∧ (parsed .text 0x1C .none).la.far = emptyLine)
      ∧ (Awake (parsed .intro 0x51 .none) ∧ (parsed .intro 0x51 .none).dp = .intro
        ∧ (parsed .intro 0x51 .none).link.state = .fade
        ∧ (parsed .intro 0x51 .none).framer.data.length ≤ 149 ∧ (parsed .intro 0x51 .none).fu.inst = none
        ∧ (parsed .intro 0x51 .none).pe.engine = .idle ∧ (parsed .intro 0x51 .none).tor.nums.getD 32 0 = 0)
      ∧ (Awake (parsed (.args .o (List.replicate 38 0x30)) 0x31 .none)
        ∧ (parsed (.args .o (List.replicate 38 0x30)) 0x31 .none).dp = .args .o (List.replicate 38 0x30)
        ∧ 38 ≤ (List.replicate 38 (0x30 : Byte)).length)
      ∧ ((parsed (.args .o []) 0x33 .none).dp = .args .o [] ∧ isDigit 0x33 = true)
      ∧ (∀ d bs, ready.dp ≠ .args d bs) := by
  refine ⟨⟨awake ?_, ?_⟩, ⟨awake ?_, ?_⟩, ⟨awake ?_, ?_⟩, ⟨awake ?_, ?_⟩, ?_, ?_⟩
    <;> first | decide +kernel | rfl | (intros; intro h; cases h)

/-- The parser of a HELD part with `n` entries in the queue and a FAR line of one cell. -/
def farLine (p : Parser) (b : Byte) (n : Nat) : State :=
  { parsed p b .none with
    pe := held.pe, pq := (queued n).pq
    la := { laReset with far := { emptyLine with cells := [⟨0, ⟨0x41, false, false, false⟩⟩], column := 1 } } }

/-- The clauses on control codes: none waits; LF and FF with room at 40 entries, and without it; a code
offered to a line that waits. -/
theorem witness_DirectiveParserTakesOneEntry_codes :
    (∀ b ∈ ([0x07, 0x08, 0x09, 0x0A, 0x0C, 0x0D, 0x0E, 0x0F, 0x16, 0x17, 0x00, 0x1F, 0x7F] : List Byte),
        (Awake (farLine .text b 39) ∧ (farLine .text b 39).framer.rxf = [⟨b, .none⟩])
        ∧ (farLine .text b 39).framer.paused = false ∧ (farLine .text b 39).dp = .text
        ∧ (farLine .text b 39).la.far.waiting = [] ∧ (farLine .text b 39).port.out.length ≤ 90)
      ∧ ((farLine .text 0x0A 39).pq.entries.length + 1 = 40 ∧ (farLine .text 0x0C 38).pq.entries.length + 2 = 40
        ∧ (farLine .text 0x0C 38).la.far.cells ≠ [] ∧ (farLine .text 0x0A 39).pq.pendingBlock = none
        ∧ (farLine .text 0x0A 39).pq.waitList = [] ∧ (farLine .text 0x0A 39).pe.engine ≠ .idle
        ∧ 40 < (farLine .text 0x0C 39).pq.entries.length + 2)
      ∧ (waitingLine .far 0).la.far.waiting ≠ [] := by
  refine ⟨fun b _ => ⟨⟨awake rfl, rfl⟩, rfl, rfl, rfl,
    (by decide +kernel : ready.port.out.length ≤ 90)⟩, ?_, ?_⟩ <;> decide +kernel

/-- The clauses on directives: the letters, L, replies with and without room and outside ONLINE and
FADE, and the argument of each. -/
theorem witness_DirectiveParserTakesOneEntry_directives :
    (∀ b ∈ ([0x46, 0x56, 0x47, 0x55, 0x57, 0x43, 0x58, 0x4C, 0x51, 0x41] : List Byte),
        Awake (farLine .intro b 39) ∧ (farLine .intro b 39).dp = .intro
        ∧ (farLine .intro b 39).framer.rxf = [⟨b, .none⟩])
      ∧ ((farLine .intro 0x4C 39).la.far.cells ≠ [] ∧ (farLine .intro 0x4C 39).pq.entries.length ≤ 39
        ∧ (parsed .intro 0x4C .none).la.far.cells = [])
      ∧ ((farLine .intro 0x51 39).link.state = .fade ∧ (farLine .intro 0x51 39).pe.engine = .held
        ∧ (farLine .intro 0x51 39).fu.inst = none
        ∧ (sending 149 (some ⟨0, []⟩) .none).framer.data.length + 9 = 158
        ∧ 158 < (sending 150 none .none).framer.data.length + 9
        ∧ (linked .qualify).link.state ≠ .online ∧ (linked .qualify).link.state ≠ .fade)
      ∧ (isDigit 0x30 = true ∧ isDigit 0x32 = true ∧ 2 = 10 * digitVal 0x30 + digitVal 0x32
        ∧ 16 = 10 * digitVal 0x31 + digitVal 0x36
        ∧ withOrder.formTemplate.field? 2 = some (orderField 2 1 0 4 .qty 0 0)
        ∧ withOrder.formTemplate.field? 16 = none)
      ∧ (torReset.farSet.getLsbD 32 = true ∧ (0#40).getLsbD 32 = false
        ∧ (farLine (.args .k []) 0x31 0).store.state = .idle ∧ (farLine (.args .k []) 0x31 0).ks.kq = [])
      ∧ (farLine (.args .v [0x30, 0x32, 0x39]) 0x3B 0).dp = .args .v (0x30 :: 0x32 :: [0x39])
      ∧ (withOrder.fu.inst = some orderFilled ∧ orderFilled.phase = .opened
        ∧ (orderField 2 1 0 4 .qty 0 0).kind.entered = true ∧ parseWritten .qty 4 [0x39] = some (.num 9)
        ∧ 2 ∈ orderFilled.vals.map FieldVal.id ∧ fieldsApart withOrder.formTemplate.fields = true
        ∧ parseWritten .qty 4 [0x41] = none ∧ (orderField 4 1 20 12 .ext 2 3).kind.entered = false) := by
  refine ⟨fun b _ => ⟨awake rfl, rfl, rfl⟩, ?_, ?_, ?_, ?_, ?_, ?_⟩ <;> decide +kernel

/-- A report whose last byte is next. -/
def lastByte : FormInst :=
  { orderFilled with phase := .reporting, report := [0x41, 0x0D], reportPos := 1 }

/-- The link in a state with a form REPORTING. -/
def reporting (st : LinkState) : State :=
  { linked st with fu := { fuReset with inst := some lastByte } }

/-- A REPORTING form as the link leaves ONLINE or FADE, with and without cells in the FAR line. -/
theorem witness_ReportIsAbandoned :
    (CommandReady (reporting .online) ∧ (reporting .online).link.state = .online
        ∧ (reporting .online).fu.inst = some lastByte ∧ lastByte.phase = .reporting
        ∧ (reporting .online).la.far.cells = [])
      ∧ (Awake (reporting .fade) ∧ (reporting .fade).link.holdover ≠ none
        ∧ (reporting .fade).link.gainPending = false ∧ (reporting .fade).port.out.length ≤ 90)
      ∧ (∃ s : State, CommandReady s ∧ s.link.state = .fade ∧ s.fu.inst = some lastByte
        ∧ s.la.far.cells ≠ [])
      ∧ ∃ s : State, Awake s ∧ s.link.state = .online ∧ s.link.spaceRun ≠ none
        ∧ s.fu.inst = some lastByte ∧ s.port.out.length ≤ 90 := by
  refine ⟨⟨commandReady ?_, ?_⟩, ⟨awake ?_, ?_⟩,
    ⟨{ reporting .fade with la := { laReset with far := { emptyLine with
        cells := [⟨0, ⟨0x41, false, false, false⟩⟩], font := some .std } } }, commandReady ?_, ?_⟩,
    ⟨{ reporting .online with link := (spaced (some ⟨7, 1, 1⟩) false).link }, awake ?_, ?_⟩⟩
    <;> decide +kernel

/-- 09 R186: LINK DROP with one report byte queued raises REPORT ABANDONED (3, 1), then FORM STATE. -/
theorem test_reportAbandoned :
    ∃ t, exec (.linkDrop []) (reporting .online) = .next t ∧ t.fu.inst = none
      ∧ t.port.out.drop 90 = [0x00, 0x00, 0x44, 0x02, 0x00, 0x00, 0x5B, 0x03, 0x03, 0x00, 0x01,
          0x58, 0x04, 0x00, 0x03, 0x05, 0x00] := by
  refine ⟨_, rfl, ?_⟩; decide +kernel

theorem witness_RepliesAndReportsJoinTxqWhole :
    (∃ s : State, Awake s ∧ s.framer.inFlight ≠ none ∧ s.port.out.length ≤ 122
        ∧ s.dp = .replyWait [0x1C, 0x61, 0x0D] ∧ s.link.state = .online
        ∧ s.framer.data.length + ([0x1C, 0x61, 0x0D] : List Byte).length = 158)
      ∧ ∃ (s : State) (i : FormInst), Awake s ∧ s.framer.inFlight ≠ none ∧ s.port.out.length ≤ 122
        ∧ s.fu.inst = some i ∧ i.phase = .reporting ∧ i.report.drop i.reportPos = 0x0D :: []
        ∧ s.link.state = .online ∧ (∀ r, s.dp ≠ .replyWait r) ∧ s.framer.data.length = 157 := by
  refine ⟨⟨{ sending 155 (some ⟨0, []⟩) .none with dp := .replyWait [0x1C, 0x61, 0x0D] }, awake ?_, ?_⟩,
    { sending 157 (some ⟨0, []⟩) .none with fu := { fuReset with inst := some lastByte } }, lastByte,
    awake ?_, ?_, ?_, ?_, ?_, ?_, ?_, ?_, ?_⟩ <;> first | decide +kernel | rfl | (intros; intro h; cases h)

theorem order_noDefault : ∀ f ∈ order.fields, f.default = none := by decide

/-- The worked order keeps 09 R164. -/
theorem order_withinR164 : order.WithinR164 := by
  refine ⟨by decide, by decide, by decide, by decide, by decide, by decide, fun f hf => ?_⟩
  have h : ∀ f ∈ order.fields, 1 ≤ f.id ∧ f.id ≤ 16 ∧ f.line < order.lines.length
        ∧ 1 ≤ f.width ∧ f.width ≤ 32 ∧ f.col + f.width ≤ order.font.columns
        ∧ f.label.length ≤ 12 ∧ (∀ b ∈ f.label, 0x20 ≤ b.toNat ∧ b.toNat ≤ 0x7E)
        ∧ (f.kind = .ext → (∃ q ∈ order.fields, q.id = f.qref ∧ q.kind = .qty)
            ∧ ∃ p ∈ order.fields, p.id = f.pref ∧ p.kind = .price)
        ∧ (f.kind ≠ .ext → f.qref = 0 ∧ f.pref = 0) := by decide
  obtain ⟨a, b, c, d, e, g, i, j, k, l⟩ := h f hf
  exact ⟨a, b, c, d, e, g, i, j, k, l, fun v hv => by simp [order_noDefault f hf] at hv⟩

theorem witness_LoadFormAndDeleteForm :
    (PortReady (saving .mark 0) ∧ (saving .mark 0).store.state ≠ .idle)
      ∧ (PortReady withOrder ∧ withOrder.store.state = .idle ∧ 1 ≤ (3 : Byte).toNat ∧ (8 : Byte).toNat ≤ 8
        ∧ withOrder.fu.inst.map FormInst.number = some 3
        ∧ withOrder.fu.slots.getD 2 none = some order ∧ withOrder.fu.slots.getD 7 none = none
        ∧ withOrder.fu.loadBuf = none)
      ∧ (∃ s : State, PortReady s ∧ s.store.state = .idle
        ∧ s.fu.loadBuf = some ⟨8, List.replicate 451 0⟩
        ∧ (List.replicate 451 (0 : Byte)).length + (List.replicate 61 (0 : Byte)).length = 512)
      ∧ (decodeImage [0, 1, 0, 0]).isSome = true ∧ decodeImage [0, 1, 0] = none
      ∧ (order.WithinR164 ∧ order.fields.reverse.Perm order.fields
        ∧ ∀ f ∈ order.fields, ∀ v, f.default = some v → (valueText f.kind v).length ≤ 32
          ∧ parseWritten f.kind f.width (valueText f.kind v) = some v) := by
  refine ⟨⟨portReady ?_, ?_⟩, ⟨portReady ?_, ?_⟩,
    ⟨{ ready with fu := { fuReset with loadBuf := some ⟨8, List.replicate 451 0⟩ } }, portReady ?_, ?_⟩,
    ?_, ?_, order_withinR164, List.reverse_perm _, fun f hf v hv => by
      simp [order_noDefault f hf] at hv⟩
    <;> decide +kernel

/-- The order as opened, with field 3 current. -/
def orderEmpty : FormInst := { newInstance order 3 0 with current := some 3 }

/-- The order with "18" keyed into field 3. -/
def orderKeyed : FormInst := { orderFilled with current := some 3, edit := [0x31, 0x38] }

/-- The requests by a key or the far end: to open with the slot filled, empty and a form OPEN; to commit
with no form, one COMMIT PENDING and one OPEN that fails or goes in; to cancel. -/
theorem witness_FormRequests :
    ({ withOrder with fu := { withOrder.fu with inst := none } } : State).fu.inst = none
      ∧ withOrder.fu.slots.getD (3 - 1) none = some order ∧ withOrder.fu.slots.getD (8 - 1) none = none
      ∧ (torReset.put 36 0).nums.getD 35 0 = 0 ∧ KeyLineQuiet withOrder
      ∧ (formIn .pending none).fu.inst.map FormInst.phase = some .pending
      ∧ (formIn .pending none).pq.waitList = [] ∧ (formIn .opened (some 3)).pe.engine ≠ .idle
      ∧ (withOrder.formTemplate.fields.find? fun f => (f.required && valueOf orderEmpty.vals f.id == .empty)
          || valueOf orderEmpty.vals f.id == .overflow) = some (orderField 1 0 10 22 .text 0 0)
      ∧ orderEmpty.current = some 3
      ∧ (withOrder.formTemplate.fields.find? fun f => (f.required && valueOf orderFilled.vals f.id == .empty)
          || valueOf orderFilled.vals f.id == .overflow) = none
      ∧ (formBlock order orderFilled.vals 4 2 false).length + (queued 26).pq.entries.length = 40
      ∧ (formIn .opened none).pq.pendingBlock = none
      ∧ ((linked .online).link.state = .online ∧ torReset.nums.getD 36 0 = 1)
      ∧ (formIn .reporting none).fu.inst.map FormInst.phase = some .reporting := by
  refine ⟨rfl, ?_, ?_, ?_, ⟨?_, ?_, ?_⟩, ?_⟩ <;> decide +kernel

theorem witness_FormOpensCommitsAndCancels :
    (∃ s : State, CommandReady s ∧ s.fu.inst = none ∧ s.fu.slots.getD 2 none = some order
        ∧ s.fu.slots.getD 0 none = none ∧ s.tor.nums.getD 35 0 = 0 ∧ s.la.key.cells = []
        ∧ s.la.key.waiting = [] ∧ s.fu.keyOut = [])
      ∧ (CommandReady (formIn .opened (some 3)) ∧ (formIn .opened (some 3)).pe.engine ≠ .idle
        ∧ (formIn .opened (some 3)).formTemplate.fields.find?
            (fun f => (f.required && valueOf orderFilled.vals f.id == .empty)
              || valueOf orderFilled.vals f.id == .overflow) = none
        ∧ (formBlock order orderFilled.vals 4 2 false).length = 14)
      ∧ (∃ (s : State) (i : FormInst), CommandReady s ∧ s.fu.inst = some i ∧ i.phase = .opened
        ∧ (s.formTemplate.fields.find? fun f => (f.required && valueOf i.vals f.id == .empty)
            || valueOf i.vals f.id == .overflow) = some (orderField 1 0 10 22 .text 0 0)
        ∧ i.current = some 3)
      ∧ (CommandReady (formIn .pending none) ∧ (formIn .pending none).pq.waitList = [])
      ∧ CommandReady (formIn .reporting none) := by
  refine ⟨⟨{ withOrder with fu := { withOrder.fu with inst := none }, tor := torReset.put 36 0 },
      commandReady ?_, ?_⟩, ⟨commandReady ?_, ?_⟩,
    ⟨{ withOrder with fu := { withOrder.fu with inst := some orderEmpty } }, orderEmpty,
      commandReady ?_, ?_⟩,
    ⟨commandReady ?_, ?_⟩, commandReady ?_⟩ <;> decide +kernel

/-- A line of the order with its windows, each kind of value, and the report. -/
theorem witness_FormOpensCommitsAndCancels_lines :
    order.WithinR164 ∧ 1 < order.lines.length ∧ order.lines[1]? = some []
      ∧ valueOf orderFilled.vals 2 = .num 12 ∧ valueOf orderFilled.vals 1 = .text [0x41]
      ∧ valueOf orderEmpty.vals 3 = .empty
      ∧ (valueText .price (.num 9999999)).length ≤ 9 ∧ 9 < (valueText .price (.num 123456789)).length
      ∧ ∀ f ∈ order.fields, f.id ≤ 99 := by
  refine ⟨order_withinR164, ?_⟩; decide +kernel

/-- 09 R182: line 1 of the order renders as "  12", "    18.95" and "      227.40" in 32 cells. -/
theorem test_order_line :
    renderLine order orderFilled.vals 1
      = [0x20, 0x20, 0x31, 0x32, 0x20, 0x20, 0x20, 0x20, 0x20, 0x20, 0x31, 0x38, 0x2E, 0x39, 0x35]
        ++ [0x20, 0x20, 0x20, 0x20, 0x20] ++ [0x20, 0x20, 0x20, 0x20, 0x20, 0x20]
        ++ [0x32, 0x32, 0x37, 0x2E, 0x34, 0x30] := by decide +kernel

/-- Written strings of each kind that parse, and others that do not (09 R176). -/
theorem witness_SetFieldWritesTheValue_strings :
    (([0x31, 0x38, 0x2E, 0x39, 0x35] : List Byte).any isDigit = true
        ∧ ([0x31, 0x38, 0x2E, 0x39, 0x35] : List Byte) = [0x31, 0x38] ++ 0x2E#8 :: [0x39, 0x35])
      ∧ ([0x2E] : List Byte).any isDigit = false
      ∧ (([0x39, 0x39, 0x39, 0x39, 0x39] : List Byte).length = 5
        ∧ ([0x39, 0x39, 0x39, 0x39, 0x39] : List Byte).all isDigit = true)
      ∧ ([0x41] : List Byte).all isDigit = false
      ∧ (∀ b ∈ ([0x20, 0x7E, 0x80, 0xFF] : List Byte), 0x20 ≤ b.toNat ∧ b.toNat ≠ 0x7F
          ∧ b.toNat ≠ 0x3B)
      ∧ (0x3B : Byte).toNat = 0x3B := by decide +kernel

/-- 09 R176: "18.95", ".5" and "" as a price; "." , "1.234" and "123456" do not parse. -/
theorem test_writtenPrices :
    parseWritten .price 9 [0x31, 0x38, 0x2E, 0x39, 0x35] = some (.num 1895)
      ∧ parseWritten .price 9 [0x2E, 0x35] = some (.num 50) ∧ parseWritten .price 9 [] = some .empty
      ∧ parseWritten .price 9 [0x2E] = none ∧ parseWritten .price 9 [0x31, 0x2E, 0x32, 0x33, 0x34] = none
      ∧ parseWritten .price 9 [0x31, 0x32, 0x33, 0x34, 0x35, 0x36] = none := by decide +kernel

theorem witness_SetFieldWritesTheValue :
    (CommandReady (formIn .reporting none) ∧ (formIn .reporting none).fu.inst.map FormInst.phase ≠ some .opened)
      ∧ (CommandReady withOrder ∧ withOrder.fu.inst = some orderFilled ∧ orderFilled.phase = .opened
        ∧ withOrder.formTemplate.field? 16 = none
        ∧ withOrder.formTemplate.field? 4 = some (orderField 4 1 20 12 .ext 2 3)
        ∧ withOrder.formTemplate.field? 2 = some (orderField 2 1 0 4 .qty 0 0)
        ∧ parseWritten .qty 4 [0x39, 0x39, 0x39, 0x39, 0x39] = some (.num 99999)
        ∧ parseWritten .qty 4 [0x31, 0x30, 0x30, 0x30, 0x30, 0x30] = none
        ∧ 2 ∈ orderFilled.vals.map FieldVal.id ∧ fieldsApart withOrder.formTemplate.fields = true) := by
  refine ⟨⟨commandReady ?_, ?_⟩, ⟨commandReady ?_, ?_⟩⟩ <;> decide +kernel

theorem witness_GetFieldReadsTheField :
    (CommandReady ready ∧ ready.fu.inst = none)
      ∧ (CommandReady (formIn .reporting none)
        ∧ (formIn .reporting none).formTemplate.field? 8 = some (orderField 8 3 20 12 .total 0 0)
        ∧ (formIn .reporting none).formTemplate.field? 0 = none
        ∧ (valueText .total (valueOf orderFilled.vals 8)).length ≤ 251)
      ∧ (valueText .grand (.num 1250000000)).length = 11 := by
  refine ⟨⟨commandReady ?_, ?_⟩, ⟨commandReady ?_, ?_⟩, ?_⟩ <;> decide +kernel

theorem witness_KeyedCodesEditTheCurrentField :
    (Awake (keyed (.code 0x35) (formIn .pending none))
        ∧ (keyed (.code 0x35) (formIn .pending none)).ks.kq = [⟨0, .make, ⟨false, false, false⟩⟩]
        ∧ (keyed (.code 0x35) (formIn .pending none)).tor.nums.getD 32 0 ≠ 1
        ∧ ((keyed (.code 0x35) (formIn .pending none)).kr.entry .base 0).kind = .code 0x35)
      ∧ (∃ (s : State) (i : FormInst), Awake s ∧ s.fu.inst = some i ∧ i.phase = .opened
        ∧ i.current = some 3 ∧ s.formTemplate.field? 3 = some (orderField 3 1 6 9 .price 0 0)
        ∧ s.tor.nums.getD 35 0 = 0 ∧ 3 ∈ i.vals.map FieldVal.id ∧ i.edit.length < 5
        ∧ 0x2E#8 ∉ i.edit)
      ∧ ∃ s : State, Awake s ∧ s.tor.nums.getD 35 0 = 1 ∧ s.la.key.waiting ≠ [] := by
  refine ⟨⟨awake ?_, ?_⟩,
    ⟨{ keyed (.code 0x35) (formIn .opened none) with
        tor := torReset.put 36 0
        fu := { withOrder.fu with inst := some orderKeyed } }, orderKeyed, awake ?_, ?_⟩,
    ⟨{ keyed (.code 0x35) (formIn .opened none) with la := (waitingLine .key 0).la }, awake ?_, ?_⟩⟩
    <;> decide +kernel

/-- Field 3 current with field 36 = 1 and a KEY line with a cell at column 3, its column at `c`. -/
def echoed (code : Byte) (c : Nat) (wrap : Int) (n : Nat) : State :=
  { keyed (.code code) (formIn .opened none) with
    tor := torReset.put 20 wrap
    fu := { withOrder.fu with inst := some orderKeyed }
    pq := (queued n).pq
    la := { laReset with key := { emptyLine with
      cells := [⟨3, ⟨0x38, false, false, false⟩⟩], column := c, font := some .std } } }

/-- The clauses with field 36 = 1: the wrap that waits, the echo discarded, the echo at the last
column, and BS. -/
theorem witness_KeyedCodesEditTheCurrentField_echo :
    (Awake (echoed 0x35 32 1 40) ∧ (echoed 0x35 32 1 40).tor.nums.getD 35 0 = 1
        ∧ (echoed 0x35 32 1 40).tor.nums.getD 32 0 ≠ 1
        ∧ (echoed 0x35 32 1 40).tor.nums.getD 19 0 = 1 ∧ (echoed 0x35 32 1 40).la.key.waiting = []
        ∧ (echoed 0x35 32 1 40).la.key.cells ≠ [] ∧ 32 < (echoed 0x35 32 1 40).la.key.column + 1
        ∧ 39 < (echoed 0x35 32 1 40).pq.entries.length ∧ orderKeyed.edit.length < 5)
      ∧ ((echoed 0x35 32 0 0).tor.nums.getD 19 0 ≠ 1 ∧ 32 < (echoed 0x35 32 0 0).la.key.column + 1)
      ∧ ((echoed 0x35 31 1 0).la.key.column + 1 ≤ 32 ∧ (echoed 0x35 31 1 0).la.key.double = false
        ∧ (∀ p ∈ (echoed 0x35 31 1 0).la.key.cells, p.col + p.cell.columns ≤ 31))
      ∧ (orderKeyed.edit ≠ [] ∧ (echoed 0x08 4 1 0).la.key.column = 3 + 1
        ∧ (echoed 0x08 4 1 0).la.key.cells = [] ++ [⟨3, ⟨0x38, false, false, false⟩⟩]) := by
  refine ⟨⟨awake ?_, ?_⟩, ?_, ?_, ?_⟩ <;> decide +kernel

/-- 09 R174: a BS whose echo takes the last cell back leaves a space there, at column 3. -/
theorem test_echoBackspace :
    ∃ t, exec .keyEventExamine (echoed 0x08 4 1 0) = .next t ∧ t.la.key.column = 3
      ∧ t.la.key.cells.map (fun p => (p.col, p.cell.code)) = [(3, 0x20#8)]
      ∧ t.fu.inst.map FormInst.edit = some [0x31] := by
  refine ⟨_, rfl, ?_⟩; decide +kernel

/-- A BS whose echo wraps: the KEY line double at its last column, PQ full. -/
def echoWraps : State :=
  { echoed 0x08 32 1 40 with la := { laReset with key := { (echoed 0x08 32 1 40).la.key with double := true } } }

/-- The 20h of a BS refused by a wrap, and its examination with the KEY line empty again. -/
theorem witness_KeyedCodesEditTheCurrentField_wrap :
    (Awake echoWraps ∧ echoWraps.ks.echoBegun = false ∧ echoWraps.la.key.waiting = []
        ∧ echoWraps.la.key.cells ≠ [] ∧ echoWraps.tor.nums.getD 19 0 = 1
        ∧ 32 < echoWraps.la.key.column - 1 + 2 ∧ 39 < echoWraps.pq.entries.length)
      ∧ ∃ s : State, Awake s ∧ s.ks.echoBegun = true ∧ s.ks.kq.length = 1
        ∧ s.la.key.double = false ∧ s.la.key.column + 1 ≤ 32 ∧ s.la.key.cells = [] := by
  refine ⟨⟨awake ?_, ?_⟩, ⟨{ echoed 0x08 0 1 0 with
    ks := { (echoed 0x08 0 1 0).ks with echoBegun := true }, la := laReset }, awake ?_, ?_⟩⟩
    <;> decide +kernel

/-- 01 R13, R16: the event stays with the field unchanged; once the line's entry is in the queue its 20h
goes into the empty line, at column 0, and the field changes. -/
theorem test_echoBackspaceWraps :
    ∃ t u, exec .keyEventExamine echoWraps = .next t ∧ t.ks.kq.length = 1 ∧ t.ks.echoBegun = true
      ∧ t.fu.inst.map FormInst.edit = some [0x31, 0x38] ∧ t.la.key.waiting.length = 1
      ∧ exec .keyEventExamine { t with la := laReset, pq := pqReset } = .next u ∧ u.ks.kq = []
      ∧ u.ks.echoBegun = false ∧ u.fu.inst.map FormInst.edit = some [0x31]
      ∧ u.la.key.cells.map (fun p => (p.col, p.cell.code)) = [(0, 0x20#8)] ∧ u.la.key.column = 0 := by
  refine ⟨_, _, rfl, ?_, ?_, ?_, ?_, rfl, ?_, ?_, ?_, ?_⟩ <;> decide +kernel

/-- The hypotheses of the statements about every step: State.reset meets each rule
(Obligations.ResetKeepsTheRules), and its step answers a next state. -/
theorem witness_StepKeeps : ∃ t, step State.reset = .next t := ⟨_, rfl⟩

/-- At the limits of the capacities, with the worked order open, the rules still hold. -/
def fullPart : State :=
  { withOrder with
    pq := (queued 40).pq, framer := { (receiving 64).framer with flow := [0x11, 0x13] }
    port := { portReset with out := List.replicate 128 0 } }

/-- A value that is a text in its width, or a number within the least limit of its field's kind. -/
def smallValue (f : Field) : Value → Bool
  | .text cs => f.kind == .text && decide (cs.length ≤ f.width)
  | .num n => f.kind != .text && (decide (n ≤ 99999) || (f.kind != .qty && decide (n ≤ 9999999)))
  | _ => false

theorem holds_of_smallValue {f : Field} {v : Value} (h : smallValue f v = true) : f.holds v := by
  cases v with
  | text cs => simpa [smallValue, Field.holds] using h
  | num n =>
    cases hk : f.kind <;> simp [smallValue, Field.holds, hk] at h ⊢ <;> omega
  | _ => simp [smallValue] at h

theorem fullPart_forms : FormsWithinKinds fullPart := by
  have hv : ∀ v ∈ orderFilled.vals, ∀ f ∈ order.fields, f.id = v.id → smallValue f v.value = true := by
    decide +kernel
  have ho : fullPart.formTemplate = order := rfl
  refine ⟨fun t ht => ?_, fun i hi => ?_⟩
  · obtain rfl : t = order := by simpa [fullPart, withOrder] using ht
    exact ⟨by decide, fun f hf => ⟨(by decide : ∀ f ∈ order.fields, f.width ≤ 32) f hf,
      fun v hv => by simp [order_noDefault f hf] at hv⟩⟩
  · obtain rfl : orderFilled = i := by simpa [fullPart, withOrder] using hi
    refine ⟨by decide +kernel, by decide +kernel, fun v hm f hf => ?_, fun id f hc hf => ?_⟩
    · rw [ho] at hf
      exact holds_of_smallValue (hv v hm f (List.mem_of_find?_eq_some hf)
        (by simpa using List.find?_some hf))
    · have he : orderFilled.edit = [] := by decide +kernel
      rw [he]
      cases hk : f.kind <;> simp [Field.editable, hk, wholeDigits, fractionDigits]

theorem witness_StepKeepsCapacities :
    WithinCapacity fullPart ∧ FormsWithinKinds fullPart ∧ StoreAndOptions fullPart
      ∧ ∃ t, step fullPart = .next t := by
  refine ⟨by unfold WithinCapacity; decide +kernel, fullPart_forms,
    ⟨by decide +kernel, by decide +kernel, ?_, ?_⟩, _, rfl⟩
  · intro w h; cases h
  · intro bs h; cases h

end Sys2Proof.Tests
end

/-! PROOFS: what the engine and an append leave, and events that raise no notice. -/

namespace Sys2Proof.Machine

/-! ### Events and frames that raise no notice -/

/-- An event of an awake part whose act raises no notice. -/
theorem event_quiet {f : State → State} {s : State} (hs : Awake s) (hf : (f s).raised = []) :
    event f s = .next (f s) := by
  rw [event_next hs.1, placeNotices_nil hf]

/-- An event of an awake part whose act changes nothing. -/
theorem event_idle {f : State → State} {s : State} (hs : Awake s) (hf : f s = s) :
    event f s = .next s := by
  rw [event_quiet hs (by rw [hf, hs.2]), hf]

/-- One notice for which there is room is placed behind the bytes held. -/
theorem placeNotices_one {n : Notice} {s : State} (hn : s.raised = [])
    (hr : s.port.out.length + n.bytes.length ≤ 128) :
    placeNotices (raise n s) = s.answered n.bytes := by
  simp [placeNotices, raise, hn, placeNotice_room hr, State.answered, State.onPort]

/-- A listed command's frame written to a ready port is taken by its own rule, and answered (11 R201). -/
theorem deliverFrame_listed {code : Byte} {p : List Byte} {s : State} (hs : CommandReady s)
    (hl : p.length ≤ 63) (hc : listedCode code = true) :
    deliverFrame code p s = .next (respond (runListed ⟨code, p⟩ s)) := by
  rw [deliverFrame_ready hs.1 hl, runCommand_ready hc hs.2]

/-- A listed command that raises no notice: the state it leaves, answered. -/
theorem deliverFrame_quiet {code : Byte} {p : List Byte} {s u : State} {r : Resp} (hs : CommandReady s)
    (hl : p.length ≤ 63) (hc : listedCode code = true) (hrun : runListed ⟨code, p⟩ s = (u, r))
    (hu : u.raised = []) : deliverFrame code p s = .next (u.answered r.bytes) := by
  rw [deliverFrame_listed hs hl hc, hrun, respond_quiet hu]

theorem CommandReady.raised_nil {s : State} (hs : CommandReady s) : s.raised = [] := hs.1.1.2

/-! ### The engine: notices, its own state, and the in-print mark -/

/-- `t` differs from `s` in the notices raised, the print engine and the in-print mark only. -/
def OnlyEngine (s t : State) : Prop :=
  t = { s with raised := t.raised, pe := t.pe, pq := { s.pq with inPrint := t.pq.inPrint } }

theorem OnlyEngine.trans {s t u : State} (h : OnlyEngine s t) (k : OnlyEngine t u) : OnlyEngine s u := by
  unfold OnlyEngine at *; rw [k, h]

theorem OnlyEngine.after {s t u : State} (k : OnlyEngine t u) (h : OnlyEngine s t) : OnlyEngine s u :=
  h.trans k

theorem OnlyEngine.onPe (f) (s : State) : OnlyEngine s (s.onPe f) := rfl

theorem setCause_engine (c : HoldCause) (s : State) : OnlyEngine s (setCause c s) := by
  unfold setCause; split <;> rfl

theorem enterHeld_engine (s : State) : OnlyEngine s (enterHeld s) := by
  unfold enterHeld; split <;> rfl

theorem enterIdle_engine (s : State) : OnlyEngine s (enterIdle s) := by
  unfold enterIdle; split <;> rfl

theorem beginFiring_engine (inp : RowInputs) (s : State) : OnlyEngine s (beginFiring inp s) := by
  unfold beginFiring; dsimp only; split <;> rfl

theorem beginPrinted_engine (s : State) : OnlyEngine s (beginPrinted s) := by
  unfold beginPrinted; dsimp only; split
  · rfl
  · exact (beginFiring_engine _ _).after rfl

theorem lowSupplyStop_engine (s : State) : OnlyEngine s (lowSupplyStop s) :=
  (setCause_engine _ s).trans ((OnlyEngine.onPe _ _).trans (enterHeld_engine _))

theorem beginEntryRow_engine (e : Entry) (s : State) : OnlyEngine s (beginEntryRow e s) := by
  unfold beginEntryRow
  split
  · exact lowSupplyStop_engine s
  · split
    · split
      · exact beginPrinted_engine s
      · rfl
    · rfl

theorem beginDirectRow_engine (s : State) : OnlyEngine s (beginDirectRow s) := by
  unfold beginDirectRow; split
  · exact lowSupplyStop_engine s
  · rfl

/-- The engine's decision keeps the queue's entries, its pending block and its wait list (03 R39). -/
theorem engineDecide_engine (s : State) : OnlyEngine s (engineDecide s) := by
  unfold engineDecide; dsimp only
  split
  · exact beginDirectRow_engine s
  · split
    · exact (enterHeld_engine _).after rfl
    · split
      · exact (beginEntryRow_engine _ _).after rfl
      · exact (enterIdle_engine _).after rfl

theorem addCause_engine (c : HoldCause) (s : State) : OnlyEngine s (addCause c s) := by
  unfold addCause; dsimp only; split
  · rfl
  · refine (setCause_engine c s).trans ?_
    split
    · exact engineDecide_engine _
    · rfl

theorem removeCause_engine (c : HoldCause) (s : State) : OnlyEngine s (removeCause c s) := by
  unfold removeCause; dsimp only; split
  · split
    · exact (engineDecide_engine _).after rfl
    · rfl
  · rfl

theorem offerHead_engine (s : State) : OnlyEngine s (offerHead s) := by
  unfold offerHead; split
  · exact engineDecide_engine s
  · rfl

theorem leverAtBoundary_engine (s : State) : OnlyEngine s (leverAtBoundary s) := by
  unfold leverAtBoundary; dsimp only; split
  · split
    · exact (removeCause_engine _ _).after ((addCause_engine _ _).after rfl)
    · exact (addCause_engine _ _).after rfl
  · rfl

/-! ### Appends -/

/-- An engine that is not IDLE leaves the head that the queue offers. -/
theorem offerHead_busy {s : State} (h : s.pe.engine ≠ .idle) : offerHead s = s := by
  simp [offerHead, h]

/-- With an engine that is not IDLE an append joins the entries to the queue, and that is all. -/
theorem appendEntries_busy {es : List Entry} {s : State} (h : s.pe.engine ≠ .idle) :
    appendEntries es s = s.onPq fun pq => { pq with entries := pq.entries ++ es } :=
  offerHead_busy h

/-- In any engine state the entries appended stand behind the last (01 R2, R3). -/
theorem appendEntries_pq (es : List Entry) (s : State) :
    (appendEntries es s).pq
      = { s.pq with entries := s.pq.entries ++ es, inPrint := (appendEntries es s).pq.inPrint } := by
  conv => lhs; rw [appendEntries, offerHead_engine]
  rfl

/-- The append of an open line or of FEED is made with room, no block pending and nothing waiting
(01 R3). -/
theorem canAppend_iff {k : Nat} {pq : PrintQueue} (hk : 0 < k) :
    canAppend k pq = true ↔ pq.entries.length + k ≤ 40 ∧ pq.pendingBlock = none ∧ pq.waitList = [] := by
  have hfree : k ≤ pq.free ↔ pq.entries.length + k ≤ 40 := by
    simp only [PrintQueue.free, Config.pqCapacity]; omega
  simp [canAppend, hfree, and_assoc]

theorem canAppend_of_room {k : Nat} {pq : PrintQueue} (hk : 0 < k) (hroom : pq.entries.length + k ≤ 40)
    (hblock : pq.pendingBlock = none) (hwait : pq.waitList = []) : canAppend k pq = true :=
  (canAppend_iff hk).2 ⟨hroom, hblock, hwait⟩

theorem canAppend_eq_false {k : Nat} {pq : PrintQueue} (hk : 0 < k)
    (h : 40 < pq.entries.length + k ∨ pq.pendingBlock ≠ none ∨ pq.waitList ≠ []) :
    canAppend k pq = false := by
  rw [← Bool.not_eq_true, canAppend_iff hk]
  rintro ⟨hroom, hblock, hwait⟩
  rcases h with h | h | h
  · omega
  · exact h hblock
  · exact h hwait

/-- A line whose append can be made at once (01 R3, R14). -/
theorem closeLine_append {nm : LineName} {es : List Entry} {s : State} (h : canAppend es.length s.pq = true) :
    closeLine nm es s = some (appendEntries es (clearLine nm s)) := by
  simp [closeLine, h]

/-- The CTL line's entries never wait (01 R3). -/
theorem closeLine_ctl_refused {es : List Entry} {s : State} (h : canAppend es.length s.pq = false) :
    closeLine .ctl es s = none := by
  simp [closeLine, h]

/-! ### The wait list's service -/

/-- Nothing waits: the service changes nothing. -/
theorem serveWaitList_empty {s : State} (hblock : s.pq.pendingBlock = none) (hwait : s.pq.waitList = []) :
    serveWaitList s = s := by
  simp [serveWaitList, appendPendingBlock, serveLines, hblock, hwait]

end Sys2Proof.Machine

/-! PROOFS: the capacities and the forms (O55). -/

namespace Sys2Proof.Machine

/-! ### The forms' limits and the keymap (O55)

The premises of `Obligations.StepKeepsCapacities` say nothing of the numbers that the keymap's FORM actions
carry. An entry `.openForm 0` is none that LOAD KEYMAP or a load of the store can give (Table 8-1: FORM 1 to
FORM 8), but a state may hold it, and a press of its key opens the first slot's template under number 0. -/

/-- A key event of key 0 waits, its keymap entry is FORM 0, and slot 1 holds a template. -/
def formZeroPressed : State :=
  { State.reset with
    pending := [.keyEventExamine]
    ks := { ksReset with kq := [⟨0, .make, ⟨false, false, false⟩⟩] }
    kr := { krReset with keymap := krReset.keymap.set 0 ⟨.action (.openForm 0), false⟩ }
    fu := { fuReset with slots := fuReset.slots.set 0 (some ⟨.std, [[0x41]], [], []⟩) } }

theorem formZeroPressed_withinCapacity : WithinCapacity formZeroPressed := by
  unfold WithinCapacity
  decide +kernel

theorem formZeroPressed_formsWithinKinds : FormsWithinKinds formZeroPressed := by
  have slots : formZeroPressed.fu.slots = some ⟨.std, [[0x41]], [], []⟩ :: List.replicate 7 none := rfl
  refine ⟨fun t ht => ?_, fun i hi => ?_⟩
  · obtain rfl : t = ⟨.std, [[0x41]], [], []⟩ := by simpa [slots] using ht
    simp [fieldsApart]
  · cases hi

theorem formZeroPressed_storeAndOptions : StoreAndOptions formZeroPressed := by
  refine ⟨by decide +kernel, by decide +kernel, fun w h => ?_, fun bs h => ?_⟩ <;> cases h

/-- The step opens the form under template number 0. -/
theorem step_formZeroPressed :
    ∃ t i, step formZeroPressed = .next t ∧ t.fu.inst = some i ∧ i.number = 0 :=
  ⟨_, _, rfl, rfl, rfl⟩

/-- Refutes O55: a key whose keymap entry is FORM 0 opens a form of template number 0, which
`FormsWithinKinds` excludes; every premise holds before the step. -/
theorem not_stepKeepsCapacities : ¬ Obligations.StepKeepsCapacities := by
  intro keeps
  obtain ⟨t, i, hstep, hinst, hzero⟩ := step_formZeroPressed
  obtain ⟨-, -, forms⟩ := keeps _ t formZeroPressed_withinCapacity formZeroPressed_formsWithinKinds
    formZeroPressed_storeAndOptions hstep
  obtain ⟨one_le, -⟩ := forms i hinst
  omega

end Sys2Proof.Machine

/-! PROOFS: the step, END LINE, PURGE and the wait list (O1, O21, O23, O34). -/

namespace Sys2Proof.Machine

/-! ### The step (O1) -/

/-- A queue with a command at its front: the step runs it. -/
theorem step_front {c : Instr} {rest : List Instr} {s : State} (h : s.pending = c :: rest) :
    step s = exec c { s with pending := rest } := by
  unfold step
  rw [h]

/-- An empty queue: the step is the tick. -/
theorem step_empty {s : State} (h : s.pending = []) : step s = .next (tick s) := by
  unfold step
  rw [h]

theorem tick_reset {s : State} (h : s.pins.resetAsserted = true) : tick s = s := by
  simp [tick, h]

theorem tick_released {s : State} (h : s.pins.resetAsserted = false) :
    tick s = { s with
      la := { s.la with farHoldMs := if s.la.far.cells = [] then s.la.farHoldMs else s.la.farHoldMs + 1 }
      pe := { s.pe with scanWait := s.pe.scanWait.map (· + 1) } } := by
  simp [tick, h]

/-- Settles O1: both branches of the step, and the tick with RESET asserted and released. -/
theorem stepTakesTheFrontCommand : Obligations.StepTakesTheFrontCommand := by
  refine ⟨fun c rest s => step_front, fun s hempty => ⟨fun hreset => ?_, fun hreset => ?_⟩⟩
  · rw [step_empty hempty, tick_reset hreset]
  · rw [step_empty hempty, tick_released hreset]
    cases s.pe.scanWait <;> rfl

/-! ### END LINE (O21) -/

/-- The CTL line after a commit is blank and keeps the entries that wait. -/
theorem clearLine_ctl (s : State) :
    clearLine .ctl s
      = { s with la := { s.la with ctl := ⟨[], 0, false, false, none, s.la.ctl.waiting⟩ } } := rfl

/-- The entry that a commit of the CTL line forms (01 R14). -/
theorem commitEntry_ctl (s : State) :
    commitEntry s .ctl = ⟨.ctl, .text (s.la.ctl.font.getD (if s.tor.nums.getD 17 0 = 0 then .std else .cond))
      (commitCells 0 s.la.ctl.cells) false (s.tor.nums.getD 18 0).toNat, false, false⟩ := rfl

/-- END LINE with the append made. -/
theorem cmdEndLine_append {s : State} (h : canAppend 1 s.pq = true) :
    cmdEndLine [] s = (appendEntries [commitEntry s .ctl] (clearLine .ctl s), .bare .ok) := by
  simp [cmdEndLine, closeLine_append (nm := .ctl) (es := [commitEntry s .ctl]) h]

/-- END LINE with the append refused. -/
theorem cmdEndLine_full {s : State} (h : canAppend 1 s.pq = false) :
    cmdEndLine [] s = (s, .bare .full) := by
  simp [cmdEndLine, closeLine_ctl_refused (es := [commitEntry s .ctl]) h]

/-- Settles O21: the line is closed at once where `canAppend` holds, and refused where it does not; the
append keeps all but the queue's entries in an engine that is not IDLE. -/
theorem endLineCommitsTheCtlLine : Obligations.EndLineCommitsTheCtlLine := by
  refine fun s hs => ⟨fun hroom hblock hwait => ?_, fun hfull => ?_⟩
  · have happend : canAppend 1 s.pq = true := canAppend_of_room Nat.one_pos (by omega) hblock hwait
    have hexec : exec (.endLine []) s
        = .next (respond (appendEntries [commitEntry s .ctl] (clearLine .ctl s), .bare .ok)) :=
      (deliverFrame_listed (code := 0x11) (p := []) hs (by simp) (by decide)).trans
        (by rw [← cmdEndLine_append happend]; rfl)
    have honly := appendEntries_only [commitEntry s .ctl] (clearLine .ctl s)
    obtain ⟨notices, hout⟩ :=
      respond_out (appendEntries [commitEntry s .ctl] (clearLine .ctl s), .bare .ok)
    refine ⟨_, notices, hexec, ?_, ?_, ?_, fun hbusy => ?_⟩
    · rw [← commitEntry_ctl, respond, placeNotices_pq, State.onPort_pq, appendEntries_pq]
      rfl
    · rw [respond, placeNotices_la, State.onPort_la, honly]
      rfl
    · rw [hout, honly]
      rfl
    · have hquiet : respond (appendEntries [commitEntry s .ctl] (clearLine .ctl s), .bare .ok)
          = (appendEntries [commitEntry s .ctl] (clearLine .ctl s)).answered [0x00, 0x00] := by
        rw [respond_quiet]
        · rfl
        · rw [appendEntries_busy (by exact hbusy)]; exact hs.raised_nil
      rw [hquiet, appendEntries_busy (by exact hbusy)] at hout ⊢
      exact ⟨by simpa [clearLine_ctl, Resp.bytes, Resp.bare, RespCode.byte, byteOf] using hout, rfl⟩
  · have hrefused : canAppend 1 s.pq = false :=
      canAppend_eq_false Nat.one_pos (hfull.imp_left fun h => by omega)
    exact deliverFrame_quiet (code := 0x11) (p := []) hs (by simp) (by decide) (cmdEndLine_full hrefused)
      hs.raised_nil

/-! ### PURGE (O23) -/

/-- What a PURGE set names: bits 0 to 3 are FAR, CTL, KEY and FORM (Table 11-2). -/
theorem ofSources_purgeSources (b : Byte) (e : Entry) :
    e.ofSources (purgeSources b) = match e.source with
      | .far => b.getLsbD 0 | .ctl => b.getLsbD 1 | .key => b.getLsbD 2 | .form => b.getLsbD 3 := by
  cases hsrc : e.source <;>
    simp only [Entry.ofSources, purgeSources, hsrc] <;>
    cases b.getLsbD 0 <;> cases b.getLsbD 1 <;> cases b.getLsbD 2 <;> cases b.getLsbD 3 <;> rfl

/-- What a filter leaves out is what its complement counts. -/
theorem length_sub_filter_not (p : Entry → Bool) (es : List Entry) :
    es.length - (es.filter fun e => !p e).length = es.countP p := by
  rw [← List.countP_eq_length_filter, List.length_eq_countP_add_countP p (l := es)]
  simp

section Purge

variable {srcs : List Source} {named : Entry → Bool} {s : State} {h : Entry} {rest : List Entry}

/-- With no entry in print the entries of the named sources go (01 R8). -/
theorem purgeEntries_none (hnamed : (Entry.ofSources srcs) = named) (hprint : s.pq.inPrint = false) :
    purgeEntries srcs s = (s.onPq fun pq => { pq with entries := s.pq.entries.filter fun e => !named e },
      s.pq.entries.countP named) := by
  simp [purgeEntries, hprint, hnamed, length_sub_filter_not]

/-- An entry in print of another source stays (01 R8). -/
theorem purgeEntries_other (hnamed : (Entry.ofSources srcs) = named) (hprint : s.pq.inPrint = true)
    (hq : s.pq.entries = h :: rest) (hh : named h = false) :
    purgeEntries srcs s = (s.onPq fun pq => { pq with entries := h :: rest.filter fun e => !named e },
      rest.countP named) := by
  simp [purgeEntries, hprint, hq, hnamed, hh, length_sub_filter_not]

/-- A matching entry in print with one of its rows in progress is cut, and counted once (01 R9). -/
theorem purgeEntries_cut (hnamed : (Entry.ofSources srcs) = named) (hprint : s.pq.inPrint = true)
    (hq : s.pq.entries = h :: rest) (hh : named h = true) (hrow : entryRowInProgress s = true) :
    purgeEntries srcs s
      = (s.onPq fun pq => { pq with entries := { h with cutMark := true } :: rest.filter fun e => !named e },
        rest.countP named + if h.cutMark then 0 else 1) := by
  cases hcut : h.cutMark
  · simp [purgeEntries, hprint, hq, hnamed, hh, hrow, hcut, length_sub_filter_not]
  · have hsame : h = { h with cutMark := true } := by rw [← hcut]
    simp [purgeEntries, hprint, hq, hnamed, hh, hrow, hcut, length_sub_filter_not, ← hsame]

/-- A matching entry in print between two of its rows leaves the queue (01 R9). -/
theorem purgeEntries_drop (hnamed : (Entry.ofSources srcs) = named) (hprint : s.pq.inPrint = true)
    (hq : s.pq.entries = h :: rest) (hh : named h = true) (hrow : entryRowInProgress s = false) :
    purgeEntries srcs s
      = (dropHead (s.onPq fun pq => { pq with entries := h :: rest.filter fun e => !named e }),
        rest.countP named + 1) := by
  simp [purgeEntries, hprint, hq, hnamed, hh, hrow, length_sub_filter_not]

end Purge

/-- No paper-out waits: the head's removal is all that happens (03 R43). -/
theorem dropHead_paper {s : State} (h : s.pe.paperPending = false) :
    dropHead s = { s with
      pe := { s.pe with entryRow := 0 }
      pq := { s.pq with entries := s.pq.entries.tail, inPrint := false } } := by
  simp [dropHead, h, State.onPq, State.onPe]

/-- A PURGE whose payload is not one byte of bits 0 to 3 answers RANGE. -/
theorem cmdPurge_range {p : List Byte} (s : State) (h : p.length ≠ 1 ∨ ∃ b, p = [b] ∧ 0x0F < b.toNat) :
    cmdPurge p s = (s, .bare .range) := by
  unfold cmdPurge
  split
  · next b =>
    rcases h with h | ⟨c, hc, hhigh⟩
    · exact absurd rfl h
    · obtain rfl : b = c := by simpa using hc
      rw [if_pos hhigh]
  · rfl

/-- A PURGE of a set answers the count, and serves the wait list. -/
theorem cmdPurge_set {b : Byte} {s u : State} {n : Nat} (hb : b.toNat ≤ 0x0F)
    (hpurge : purgeEntries (purgeSources b) s = (u, n)) :
    cmdPurge [b] s = (serveWaitList u, ⟨.ok, [byteOf n]⟩) := by
  simp [cmdPurge, hpurge, Nat.not_lt.2 hb]

/-- A PURGE after which nothing waits and no notice stands. -/
theorem exec_purge {b : Byte} {s u : State} {n : Nat} (hs : CommandReady s) (hb : b.toNat ≤ 0x0F)
    (hpurge : purgeEntries (purgeSources b) s = (u, n)) (hblock : u.pq.pendingBlock = none)
    (hwait : u.pq.waitList = []) (hraised : u.raised = []) :
    exec (.purge [b]) s = .next (u.answered [0x00, 0x01, byteOf n]) :=
  deliverFrame_quiet (code := 0x13) (p := [b]) (r := ⟨.ok, [byteOf n]⟩) hs (by simp) (by decide)
    ((cmdPurge_set hb hpurge).trans (by rw [serveWaitList_empty hblock hwait])) hraised

/-- Settles O23, by the four cases of `purgeEntries`. -/
theorem purgeRemovesTheNamedSources : Obligations.PurgeRemovesTheNamedSources := by
  refine fun s p hs hlen => ⟨fun hrange => ?_, ?_⟩
  · exact deliverFrame_quiet (code := 0x13) hs hlen (by decide) (cmdPurge_range s hrange) hs.raised_nil
  · rintro b named rfl hb hblock hwait hnames
    have hnamed : Entry.ofSources (purgeSources b) = named :=
      funext fun e => (ofSources_purgeSources b e).trans (hnames e).symm
    refine ⟨fun hprint => ?_, fun h rest hprint hq => ⟨fun hh => ?_, fun hh hrow hdirect => ?_,
      fun hh hrow hheld hpaper => ?_⟩⟩
    · exact exec_purge hs hb (purgeEntries_none hnamed hprint) hblock hwait hs.raised_nil
    · exact exec_purge hs hb (purgeEntries_other hnamed hprint hq hh) hblock hwait hs.raised_nil
    · have hprogress : entryRowInProgress s = true := by simp [entryRowInProgress, hrow, hdirect]
      exact exec_purge hs hb (purgeEntries_cut hnamed hprint hq hh hprogress) hblock hwait hs.raised_nil
    · have hprogress : entryRowInProgress s = false := by simp [entryRowInProgress, hrow]
      have hpurge := purgeEntries_drop hnamed hprint hq hh hprogress
      rw [dropHead_paper (by exact hpaper)] at hpurge
      exact exec_purge hs hb hpurge hblock hwait hs.raised_nil

/-! ### The wait list and the pending block (O34) -/

/-- A line of entries that fit: they stand in the queue, and the line takes codes again (01 R4). -/
theorem serveLines_fits {fuel : Nat} {s : State} {nm : LineName} {rest : List LineName}
    (hblock : s.pq.pendingBlock = none) (hwait : s.pq.waitList = nm :: rest)
    (hfit : (s.line nm).waiting.length ≤ s.pq.free) :
    serveLines (fuel + 1) s = serveLines fuel (lineFreed nm (appendEntries (s.line nm).waiting
      ((s.putLine nm { s.line nm with waiting := [] }).onPq fun pq => { pq with waitList := rest }))) := by
  simp [serveLines, hblock, hwait, hfit]

/-- An empty wait list: no line is served. -/
theorem serveLines_empty {fuel : Nat} {s : State} (hwait : s.pq.waitList = []) :
    serveLines fuel s = s := by
  cases fuel <;> simp [serveLines, hwait]

/-- A first line whose entries do not fit keeps the lines behind it back (01 R4). -/
theorem serveLines_full {fuel : Nat} {s : State} {nm : LineName} {rest : List LineName}
    (hwait : s.pq.waitList = nm :: rest) (hfull : ¬(s.line nm).waiting.length ≤ s.pq.free) :
    serveLines fuel s = s := by
  cases fuel with
  | zero => rfl
  | succ fuel => cases hblock : s.pq.pendingBlock <;> simp [serveLines, hwait, hfull, hblock]

/-- A pending block keeps every line back (01 R4, R5). -/
theorem serveLines_block {fuel : Nat} {s : State} {b : List Entry} (hblock : s.pq.pendingBlock = some b) :
    serveLines fuel s = s := by
  cases fuel <;> simp [serveLines, hblock]

theorem appendPendingBlock_none {s : State} (hblock : s.pq.pendingBlock = none) :
    appendPendingBlock s = s := by
  simp [appendPendingBlock, hblock]

/-- A pending block that does not fit waits (01 R5). -/
theorem appendPendingBlock_full {s : State} {b : List Entry} (hblock : s.pq.pendingBlock = some b)
    (hfull : ¬b.length ≤ s.pq.free) : appendPendingBlock s = s := by
  simp [appendPendingBlock, hblock, hfull]

/-- A pending block that fits is appended whole (01 R5). -/
theorem appendPendingBlock_fits {s : State} {b : List Entry} (hblock : s.pq.pendingBlock = some b)
    (hfit : b.length ≤ s.pq.free) :
    appendPendingBlock s
      = formAppended .nobody (appendEntries b (s.onPq fun pq => { pq with pendingBlock := none })) := by
  simp [appendPendingBlock, hblock, hfit]

theorem PrintQueue.le_free_iff {k : Nat} {pq : PrintQueue} (hq : pq.entries.length ≤ 40) :
    k ≤ pq.free ↔ pq.entries.length + k ≤ 40 := by
  simp only [PrintQueue.free, Config.pqCapacity]
  omega

theorem PrintQueue.le_free_of_room {k : Nat} {pq : PrintQueue} (h : pq.entries.length + k ≤ 40) :
    k ≤ pq.free :=
  (PrintQueue.le_free_iff (by omega)).2 h

theorem PrintQueue.not_le_free {k : Nat} {pq : PrintQueue} (h : 40 < pq.entries.length + k)
    (hq : pq.entries.length ≤ 40) : ¬k ≤ pq.free := by
  rw [PrintQueue.le_free_iff hq]
  omega

/-- The one line that waits is served, with an engine that is not IDLE and a line that takes nothing more
as it is freed (01 R4). -/
theorem serveWaitList_one {s : State} {nm : LineName} (hbusy : s.pe.engine ≠ .idle)
    (hblock : s.pq.pendingBlock = none) (hwait : s.pq.waitList = [nm])
    (hroom : s.pq.entries.length + (s.line nm).waiting.length ≤ 40)
    (hfreed : ∀ u : State, u.dp = s.dp → u.fu = s.fu → lineFreed nm u = u) :
    serveWaitList s = { s with
      la := s.la.putLine nm { s.line nm with waiting := [] }
      pq := { s.pq with entries := s.pq.entries ++ (s.line nm).waiting, waitList := [] } } := by
  rw [serveWaitList, appendPendingBlock_none hblock,
    serveLines_fits hblock hwait (PrintQueue.le_free_of_room hroom), appendEntries_busy (by exact hbusy),
    hfreed _ (by rfl) (by rfl), serveLines_empty rfl]
  rfl

/-- No code is offered to the FAR line: a freed FAR line takes none. -/
theorem offerHeld_none {s : State} (h : ∀ c e r, s.dp ≠ .offer c e r) : offerHeld s = s := by
  unfold offerHeld
  split
  · next hdp => exact absurd hdp (h _ _ _)
  · rfl

/-- The form unit has no item for the KEY line: a freed KEY line takes none. -/
theorem serveKeyOut_empty {s : State} (h : s.fu.keyOut = []) : serveKeyOut s = s := by
  have hsame : s.onFu (fun fu => { fu with keyOut := [] }) = s := by
    simp only [State.onFu, ← h]
  unfold serveKeyOut
  split
  · rw [h, writeKeyOut, hsame]
  · rfl

/-- The form closes with NO REPORT where TOR field 37 does not ask for a report (09 R184). -/
theorem formAppended_noReport {o : Origin} {s : State} {i : FormInst} (hinst : s.fu.inst = some i)
    (hfield : s.opt 37 ≠ 1) :
    formAppended o s = raiseFormState .closed i.number .noReport o (putInst none s) := by
  simp [formAppended, hinst, hfield]

/-- A pending block that fits is appended, and its form closes with NO REPORT; no line waits behind it
(01 R5, 09 R184). -/
theorem serveWaitList_noReport {s : State} {b : List Entry} {i : FormInst} (hbusy : s.pe.engine ≠ .idle)
    (hblock : s.pq.pendingBlock = some b) (hroom : s.pq.entries.length + b.length ≤ 40)
    (hwait : s.pq.waitList = []) (hinst : s.fu.inst = some i) (hfield : s.opt 37 ≠ 1) :
    serveWaitList s = raise (.formState .closed i.number .noReport .nobody) { s with
      pq := { s.pq with entries := s.pq.entries ++ b, pendingBlock := none }
      fu := { s.fu with inst := none } } := by
  rw [serveWaitList, appendPendingBlock_fits hblock (PrintQueue.le_free_of_room hroom),
    appendEntries_busy (by exact hbusy), formAppended_noReport (i := i) (by exact hinst) (by exact hfield),
    serveLines_empty (by exact hwait)]
  rfl

/-- A commit request of a line with a cell where the append is made at once (01 R14). -/
theorem commitRequest_append {nm : LineName} {s : State} (hcells : (s.line nm).cells ≠ [])
    (happend : canAppend 1 s.pq = true) :
    commitRequest nm s = appendEntries [commitEntry s nm] (clearLine nm s) := by
  simp [commitRequest, hcells, closeLine_append (nm := nm) (es := [commitEntry s nm]) happend]

theorem farHoldRuns_iff (s : State) :
    farHoldRuns s = true ↔ s.la.far.cells ≠ [] ∧ s.tor.nums.getD 20 0 ≠ 0 := by
  simp [farHoldRuns, State.opt, OptionRecord.get]

/-- Settles O34: the wait list's service by what stands first in it, and the FAR hold timeout by
`farHoldRuns`. -/
theorem waitListServiceKeepsItsOrder : Obligations.WaitListServiceKeepsItsOrder := by
  intro s hs hbusy
  have hquiet : s.raised = [] := hs.2
  refine ⟨fun hblock hwait hdp hroom => ?_, fun hblock hwait hkey hroom => ?_,
    fun nm rest hblock hwait hover hq => ?_, fun b hblock hover hq => ?_, fun hblock => ?_,
    fun b i hblock hroom hwait hinst hfield hout => ?_, fun hidle => ?_,
    fun hcells hfield hroom hblock hwait => ?_⟩
  · have hserve := serveWaitList_one hbusy hblock hwait hroom
      fun u hu _ => offerHeld_none fun c e r => hu ▸ hdp c e r
    exact (event_quiet hs (by rw [hserve]; exact hquiet)).trans (by rw [hserve]; rfl)
  · have hserve := serveWaitList_one hbusy hblock hwait hroom
      fun u _ hu => serveKeyOut_empty (hu ▸ hkey)
    exact (event_quiet hs (by rw [hserve]; exact hquiet)).trans (by rw [hserve]; rfl)
  · refine event_idle hs ?_
    rw [serveWaitList, appendPendingBlock_none hblock,
      serveLines_full hwait (PrintQueue.not_le_free hover hq)]
  · have hheld : serveWaitList s = s := by
      rw [serveWaitList, appendPendingBlock_full hblock (PrintQueue.not_le_free hover hq),
        serveLines_block hblock]
    exact ⟨event_idle hs hheld, event_idle hs (by simp [hblock, hheld])⟩
  · exact event_idle hs (by simp [hblock])
  · have hserve := serveWaitList_noReport hbusy hblock hroom hwait hinst
      (by show s.tor.nums.getD 36 0 ≠ 1; omega)
    have hevent : exec .pendingBlockAppend s = .next (placeNotices (serveWaitList s)) :=
      (event_next hs.1).trans (by simp [hblock])
    rw [hevent, hserve, placeNotices_one (by exact hquiet)]
    · rfl
    · show s.port.out.length + 6 ≤ 128
      omega
  · have hstopped : farHoldRuns s = false := by
      rw [← Bool.not_eq_true, farHoldRuns_iff]
      rintro ⟨hcells, hfield⟩
      exact hidle.elim hcells hfield
    exact event_idle hs (by simp [hstopped])
  · have hruns : farHoldRuns s = true := (farHoldRuns_iff s).2 ⟨hcells, hfield⟩
    have hcommit : commitRequest .far s = _ :=
      commitRequest_append hcells (canAppend_of_room Nat.one_pos (by omega) hblock hwait)
    rw [appendEntries_busy (by exact hbusy)] at hcommit
    exact (event_quiet hs (by rw [if_pos hruns, hcommit]; exact hquiet)).trans
      (by rw [if_pos hruns, hcommit]; rfl)

end Sys2Proof.Machine

/-! PROOFS: the CTL line code by code. -/

namespace Sys2Proof.Machine

/-! ### Cells of a line -/

theorem mem_insertPlaced {x p : Placed} {ps : List Placed} : x ∈ insertPlaced p ps ↔ x = p ∨ x ∈ ps := by
  induction ps with
  | nil => simp [insertPlaced]
  | cons q qs ih =>
    unfold insertPlaced
    split
    · simp
    · simp only [List.mem_cons, ih]
      exact or_left_comm

/-- A cell put among cells of other columns keeps them in rising order (01 R11). -/
theorem insertPlaced_pairwise {p : Placed} {ps : List Placed} (hps : ps.Pairwise fun a b => a.col < b.col)
    (hp : ∀ q ∈ ps, q.col ≠ p.col) : (insertPlaced p ps).Pairwise fun a b => a.col < b.col := by
  induction ps with
  | nil => simp [insertPlaced]
  | cons q qs ih =>
    obtain ⟨hq, hqs⟩ := List.pairwise_cons.1 hps
    have hne : q.col ≠ p.col := hp q (by simp)
    unfold insertPlaced
    split
    · next hlt =>
      refine List.pairwise_cons.2 ⟨fun x hx => ?_, hps⟩
      obtain rfl | hx := List.mem_cons.1 hx
      · exact hlt
      · exact Nat.lt_trans hlt (hq x hx)
    · next hle =>
      refine List.pairwise_cons.2 ⟨fun x hx => ?_, ih hqs fun r hr => hp r (by simp [hr])⟩
      obtain rfl | hx := mem_insertPlaced.1 hx
      · omega
      · exact hq x hx

/-- A cell behind all others is put last. -/
theorem insertPlaced_last {p : Placed} {ps : List Placed} (h : ∀ q ∈ ps, q.col ≤ p.col) :
    insertPlaced p ps = ps ++ [p] := by
  induction ps with
  | nil => rfl
  | cons q qs ih =>
    have hq : ¬p.col < q.col := by have := h q (by simp); omega
    simp [insertPlaced, hq, ih fun r hr => h r (by simp [hr])]

/-- A cell shares no column with `n` columns from `a` on: it stands behind them or ends before them. -/
theorem overlaps_eq_false {a n : Nat} {p : Placed} :
    overlaps a n p = false ↔ a + n ≤ p.col ∨ p.col + p.cell.columns ≤ a := by
  simp only [overlaps, Bool.and_eq_false_iff, decide_eq_false_iff_not]
  omega

/-! ### How the CTL line takes a code (01 R12 to R14) -/

section Offer

variable {s : State} {b : Byte}

/-- The CTL line without waiting entries takes a printable code or a control code. -/
theorem offerCode_ctl (hwait : s.la.ctl.waiting = []) :
    offerCode .ctl b .none s
      = if printableCode b .none then takePrintable .ctl b false s else takeControl .ctl b s := by
  have hline : (s.line .ctl).waiting.isEmpty = true := by rw [List.isEmpty_iff]; exact hwait
  generalize htake : (if printableCode b .none then takePrintable .ctl b false s
    else takeControl .ctl b s) = r
  unfold offerCode
  rw [hline]
  show (match (if printableCode b .none then takePrintable .ctl b false s else takeControl .ctl b s) with
    | .taken t => LineTake.taken t
    | .refused t => .refused t) = r
  rw [htake]
  cases r <;> rfl

theorem offerCode_ctl_printable (hwait : s.la.ctl.waiting = []) (hlo : 0x20 ≤ b.toNat) (hhi : b.toNat ≠ 0x7F) :
    offerCode .ctl b .none s = takePrintable .ctl b false s := by
  rw [offerCode_ctl hwait, if_pos (by simp [printableCode, hlo, hhi])]

theorem offerCode_ctl_control (hwait : s.la.ctl.waiting = []) (hb : b.toNat < 0x20 ∨ b.toNat = 0x7F) :
    offerCode .ctl b .none s = takeControl .ctl b s := by
  rw [offerCode_ctl hwait, if_neg]
  simp only [printableCode]
  simp
  omega

/-- With room a printable code is placed at the column (01 R12). -/
theorem takePrintable_room (hroom : s.la.ctl.column + s.la.ctl.need ≤ lineWidth s s.la.ctl) :
    takePrintable .ctl b false s
      = .taken (s.putLine .ctl (placeCode (fontOf (s.opt 18)) b false s.la.ctl)) :=
  if_pos hroom

/-- Without room and without wrap it is discarded (01 R13). -/
theorem takePrintable_discard (hfull : lineWidth s s.la.ctl < s.la.ctl.column + s.la.ctl.need)
    (hwrap : s.opt 20 ≠ 1) : takePrintable .ctl b false s = .taken s :=
  (if_neg (Nat.not_le.2 hfull)).trans (if_neg hwrap)

/-- Without room, a line with wrap that holds no cell takes it at column 0 (01 R13). -/
theorem takePrintable_wrap_empty (hfull : lineWidth s s.la.ctl < s.la.ctl.column + s.la.ctl.need)
    (hwrap : s.opt 20 = 1) (hcells : s.la.ctl.cells = []) :
    takePrintable .ctl b false s
      = .taken (s.putLine .ctl (placeCode (fontOf (s.opt 18)) b false { s.la.ctl with column := 0 })) :=
  (if_neg (Nat.not_le.2 hfull)).trans ((if_pos hwrap).trans (if_pos (List.isEmpty_iff.2 hcells)))

/-- Without room, a line with wrap and a cell is committed first (01 R13). -/
theorem takePrintable_wrap_commit (hfull : lineWidth s s.la.ctl < s.la.ctl.column + s.la.ctl.need)
    (hwrap : s.opt 20 = 1) (hcells : s.la.ctl.cells ≠ []) :
    takePrintable .ctl b false s = match closeLine .ctl [commitEntry s .ctl] s with
      | none => .refused s
      | some s1 =>
        if (s1.line .ctl).waiting.isEmpty then
          .taken (s1.putLine .ctl (placeCode (fontOf (s.opt 18)) b false (s1.line .ctl)))
        else .refused s1 :=
  (if_neg (Nat.not_le.2 hfull)).trans ((if_pos hwrap).trans (if_neg (mt List.isEmpty_iff.1 hcells)))

/-- A control code of no meaning does nothing; 07h has one in the FAR line only (01 R14). -/
theorem takeControl_ctl_other
    (hb : b ∉ ([0x0A, 0x0C, 0x0D, 0x09, 0x08, 0x0E, 0x0F, 0x16, 0x17] : List Byte)) :
    takeControl .ctl b s = .taken s := by
  have hnat : b.toNat ∉ [0x0A, 0x0C, 0x0D, 0x09, 0x08, 0x0E, 0x0F, 0x16, 0x17] := fun h =>
    hb (by simpa [← BitVec.toNat_inj] using h)
  unfold takeControl
  dsimp only
  split <;> simp_all

/-- A control code that closes the CTL line where the append is refused leaves it. -/
theorem closeTake_ctl_refused {es : List Entry} (h : canAppend es.length s.pq = false) :
    closeTake .ctl es s = .refused s := by
  rw [closeTake, closeLine_ctl_refused h]

/-- A control code that closes the CTL line where the append is made. -/
theorem closeTake_ctl_append {es : List Entry} (h : canAppend es.length s.pq = true)
    (hbusy : s.pe.engine ≠ .idle) :
    closeTake .ctl es s
      = .taken ((clearLine .ctl s).onPq fun pq => { pq with entries := pq.entries ++ es }) := by
  rw [closeTake, closeLine_append h, appendEntries_busy (by exact hbusy)]

end Offer

/-! ### PRINT TEXT byte by byte (01 R18) -/

/-- The state after the CTL line took a code, none where it refused the code. -/
def ctlTakes (s : State) (b : Byte) : Option State :=
  match offerCode .ctl b .none s with
  | .taken t => some t
  | .refused _ => none

/-- The bytes taken are those before the first that the CTL line refuses; the effect is theirs. -/
theorem printBytes_spec (p : List Byte) (n : Nat) (s : State) : ∃ k t, k ≤ p.length
    ∧ (p.take k).foldlM ctlTakes s = some t
    ∧ (k < p.length → ∃ u, offerCode .ctl (p.getD k 0) .none t = .refused u)
    ∧ printBytes p n s = (t, n + k, decide (k = p.length)) := by
  induction p generalizing n s with
  | nil => exact ⟨0, s, by simp, rfl, by simp, rfl⟩
  | cons b bs ih =>
    cases hoffer : offerCode .ctl b .none s with
    | taken s1 =>
      obtain ⟨k, t, hk, hfold, hrefused, hprint⟩ := ih (n + 1) s1
      refine ⟨k + 1, t, by simpa using hk, ?_, by simpa using hrefused, ?_⟩
      · simpa [ctlTakes, hoffer] using hfold
      · simp [printBytes, hoffer, hprint, Nat.add_comm 1 k, Nat.add_assoc]
    | refused u => exact ⟨0, s, by simp, rfl, fun _ => ⟨u, hoffer⟩, by simp [printBytes, hoffer]⟩

/-- Where every byte is taken, the count is the payload's length. -/
theorem printBytes_all {p : List Byte} {s t : State} (n : Nat) (h : p.foldlM ctlTakes s = some t) :
    printBytes p n s = (t, n + p.length, true) := by
  induction p generalizing n s with
  | nil => simp_all [printBytes]
  | cons b bs ih =>
    cases hoffer : offerCode .ctl b .none s with
    | taken s1 =>
      have hrest : bs.foldlM ctlTakes s1 = some t := by simpa [ctlTakes, hoffer] using h
      simp [printBytes, hoffer, ih (n + 1) hrest, Nat.add_comm 1, Nat.add_assoc]
    | refused u => simp [ctlTakes, hoffer] at h

/-- A plain line of the codes `bs` at columns 0, 1, 2 and so on. -/
def plainLine (f : Font) (bs : List Byte) : OpenLine :=
  { emptyLine with
    cells := bs.mapIdx fun i b => ⟨i, ⟨b, false, false, false⟩⟩
    column := bs.length
    font := if bs = [] then none else some f }

theorem plainLine_font_getD (f : Font) (bs : List Byte) : (plainLine f bs).font.getD f = f := by
  unfold plainLine
  dsimp only
  split <;> rfl

/-- A code placed behind a plain line's codes. -/
theorem placeCode_plainLine (f : Font) (bs : List Byte) (b : Byte) :
    placeCode f b false (plainLine f bs) = plainLine f (bs ++ [b]) := by
  have hcol : ∀ q ∈ (plainLine f bs).cells, q.col + 1 ≤ bs.length ∧ q.cell.columns = 1 := by
    intro q hq
    obtain ⟨i, hi, rfl⟩ := List.mem_mapIdx.1 hq
    exact ⟨hi, rfl⟩
  have hkept : (plainLine f bs).cells.filter (fun q => !overlaps bs.length 1 q) = (plainLine f bs).cells := by
    refine List.filter_eq_self.2 fun q hq => ?_
    obtain ⟨hbefore, hone⟩ := hcol q hq
    simpa using overlaps_eq_false.2 (.inr (by omega))
  have hlast := insertPlaced_last (p := ⟨bs.length, ⟨b, false, false, false⟩⟩) (ps := (plainLine f bs).cells)
    fun q hq => by have := (hcol q hq).1; show q.col ≤ bs.length; omega
  have hcells : (placeCode f b false (plainLine f bs)).cells = (plainLine f (bs ++ [b])).cells := by
    refine Eq.trans ?_ (hlast.trans ?_)
    · exact congrArg (insertPlaced _) hkept
    · simp [plainLine]
  have hfont : (placeCode f b false (plainLine f bs)).font = (plainLine f (bs ++ [b])).font := by
    simp [placeCode, plainLine_font_getD]
    simp [plainLine]
  have hcolumn : (placeCode f b false (plainLine f bs)).column = (plainLine f (bs ++ [b])).column := by
    simp [placeCode, plainLine, Cell.columns, emptyLine]
  calc placeCode f b false (plainLine f bs)
      = { plainLine f (bs ++ [b]) with
          cells := (placeCode f b false (plainLine f bs)).cells
          column := (placeCode f b false (plainLine f bs)).column
          font := (placeCode f b false (plainLine f bs)).font } := rfl
    _ = plainLine f (bs ++ [b]) := by rw [hcells, hfont, hcolumn]

/-- Printable codes that fit are taken by a plain line one after another (01 R12). -/
theorem foldlM_plainLine {s : State} {f : Font} (hf : f = fontOf (s.opt 18)) (bs p : List Byte)
    (hfit : bs.length + p.length ≤ f.columns) (hp : ∀ b ∈ p, 0x20 ≤ b.toNat ∧ b.toNat ≠ 0x7F) :
    p.foldlM ctlTakes (s.putLine .ctl (plainLine f bs)) = some (s.putLine .ctl (plainLine f (bs ++ p))) := by
  induction p generalizing bs with
  | nil => simp
  | cons b p ih =>
    obtain ⟨hlo, hhi⟩ := hp b (by simp)
    have hroom : (plainLine f bs).column + (plainLine f bs).need
        ≤ lineWidth (s.putLine .ctl (plainLine f bs)) (plainLine f bs) := by
      have hwidth : lineWidth (s.putLine .ctl (plainLine f bs)) (plainLine f bs) = f.columns := by
        rw [lineWidth, lineFont, show fontOf ((s.putLine .ctl (plainLine f bs)).opt 18) = f from hf.symm,
          plainLine_font_getD]
      rw [hwidth]
      show bs.length + 1 ≤ f.columns
      simp at hfit
      omega
    have hoffer : offerCode .ctl b .none (s.putLine .ctl (plainLine f bs))
        = .taken (s.putLine .ctl (plainLine f (bs ++ [b]))) := by
      rw [offerCode_ctl_printable rfl hlo hhi, takePrintable_room hroom, ← placeCode_plainLine]
      rw [show fontOf ((s.putLine .ctl (plainLine f bs)).opt 18) = f from hf.symm]
      rfl
    have hrest := ih (bs ++ [b]) (by simp at hfit ⊢; omega) fun c hc => hp c (by simp [hc])
    simpa [ctlTakes, hoffer] using hrest

end Sys2Proof.Machine

/-! PROOFS: PRINT TEXT (O20). -/

namespace Sys2Proof.Machine

/-! ### PRINT TEXT and the CTL line (O20) -/

/-- The cells of a line that took a printable code: the code's own, and those that share no slot with it
(01 R12). -/
theorem mem_placeCode {f : Font} {b : Byte} {l : OpenLine} {p : Placed} :
    p ∈ (placeCode f b false l).cells ↔ p = ⟨l.column, ⟨b, l.underline, l.double, false⟩⟩
      ∨ (p ∈ l.cells ∧ (l.column + l.need ≤ p.col ∨ p.col + p.cell.columns ≤ l.column)) := by
  refine mem_insertPlaced.trans (or_congr Iff.rfl ?_)
  rw [List.mem_filter, Bool.not_eq_true', overlaps_eq_false]
  rfl

/-- The cells of a line stay in rising order of their columns (01 R11). -/
theorem placeCode_pairwise {f : Font} {b : Byte} {l : OpenLine}
    (h : l.cells.Pairwise fun p q => p.col < q.col) :
    (placeCode f b false l).cells.Pairwise fun p q => p.col < q.col := by
  refine insertPlaced_pairwise (h.sublist List.filter_sublist) fun q hq => ?_
  have hapart := (List.mem_filter.1 hq).2
  rw [Bool.not_eq_true', overlaps_eq_false] at hapart
  have hneed : 0 < (⟨b, l.underline, l.double, false⟩ : Cell).columns := by
    unfold Cell.columns; split <;> simp
  have hcell : 0 < q.cell.columns := by unfold Cell.columns; split <;> simp
  show q.col ≠ l.column
  omega

/-- A PRINT TEXT frame written to a ready port runs, and is answered behind its effect. -/
theorem exec_printText {s : State} {p : List Byte} (hs : CommandReady s) (hl : p.length ≤ 63) :
    exec (.printText p) s = .next (respond (cmdPrintText p s)) :=
  deliverFrame_listed (code := 0x10) hs hl (by decide)

/-- PRINT TEXT gives the CTL line the bytes before the first that it refuses, and answers their count
(01 R18). -/
theorem printText_count {s : State} {p : List Byte} (hs : CommandReady s) (hl : p.length ≤ 63) :
    ∃ n u, n ≤ p.length ∧ (p.take n).foldlM ctlTakes s = some u
      ∧ (n < p.length → ∃ u1, offerCode .ctl (p.getD n 0) .none u = .refused u1)
      ∧ exec (.printText p) s = .next (placeNotices
          (u.answered [if n = p.length then 0x00 else 0x01, 0x01, byteOf n])) := by
  obtain ⟨n, u, hn, hfold, hrefused, hprint⟩ := printBytes_spec p 0 s
  refine ⟨n, u, hn, hfold, hrefused, ?_⟩
  rw [exec_printText hs hl, cmdPrintText, hprint]
  by_cases hall : n = p.length <;> simp [hall, respond, State.answered, Resp.bytes, RespCode.byte, byteOf]

/-- An empty plain line takes printable codes up to its width at columns 0, 1, 2 and so on (01 R12). -/
theorem printText_plain {s : State} {p : List Byte} (hs : CommandReady s) (hempty : s.la.ctl = emptyLine)
    (hp : ∀ b ∈ p, 0x20 ≤ b.toNat ∧ b.toNat ≠ 0x7F) (hfit : p.length ≤ (fontOf (s.opt 18)).columns) :
    exec (.printText p) s
      = .next ((s.putLine .ctl (plainLine (fontOf (s.opt 18)) p)).answered [0x00, 0x01, byteOf p.length]) := by
  have hblank : s.putLine .ctl (plainLine (fontOf (s.opt 18)) []) = s := by
    show s.putLine .ctl emptyLine = s
    rw [← hempty]
    rfl
  have hfold := foldlM_plainLine (s := s) rfl [] p (by simpa using hfit) hp
  rw [hblank, List.nil_append] at hfold
  have hlen : p.length ≤ 63 := Nat.le_trans hfit (by cases fontOf (s.opt 18) <;> decide)
  rw [exec_printText hs hlen, cmdPrintText, printBytes_all 0 hfold]
  simp [respond_quiet (show (s.putLine .ctl (plainLine (fontOf (s.opt 18)) p)).raised = [] from hs.raised_nil),
    Resp.bytes, RespCode.byte, byteOf]

/-- A wrap of a line with a cell: the line's entry is appended, and the code stands plain in the new line
(01 R13). -/
theorem takePrintable_wrap_append {s : State} {b : Byte} (hwait : s.la.ctl.waiting = [])
    (hfull : lineWidth s s.la.ctl < s.la.ctl.column + s.la.ctl.need) (hwrap : s.opt 20 = 1)
    (hcells : s.la.ctl.cells ≠ []) (happend : canAppend 1 s.pq = true) (hbusy : s.pe.engine ≠ .idle) :
    takePrintable .ctl b false s = .taken { s with
      la := { s.la with ctl :=
        ⟨[⟨0, ⟨b, false, false, false⟩⟩], 1, false, false, some (fontOf (s.opt 18)), []⟩ }
      pq := { s.pq with entries := s.pq.entries ++ [commitEntry s .ctl] } } := by
  have hclear : clearLine .ctl s = { s with la := { s.la with ctl := emptyLine } } := by
    rw [clearLine_ctl, hwait]
    rfl
  rw [takePrintable_wrap_commit hfull hwrap hcells, closeLine_append (es := [commitEntry s .ctl]) happend,
    appendEntries_busy (by exact hbusy), hclear]
  rfl

/-- A wrap whose append is refused leaves the line and the code (01 R13). -/
theorem takePrintable_wrap_refused {s : State} {b : Byte}
    (hfull : lineWidth s s.la.ctl < s.la.ctl.column + s.la.ctl.need) (hwrap : s.opt 20 = 1)
    (hcells : s.la.ctl.cells ≠ []) (hrefused : canAppend 1 s.pq = false) :
    takePrintable .ctl b false s = .refused s := by
  rw [takePrintable_wrap_commit hfull hwrap hcells, closeLine_ctl_refused (es := [commitEntry s .ctl]) hrefused]

/-- 0Ch into a line with a cell: the line's entry and a FEED in one append (01 R14). -/
theorem takeFormFeed_cells {s : State} (hcells : s.la.ctl.cells ≠ []) :
    takeFormFeed .ctl s = closeTake .ctl [commitEntry s .ctl, feedEntry .ctl 96] s :=
  if_neg (mt List.isEmpty_iff.1 hcells)

/-- 0Ch into a line without a cell, the append made: a FEED alone; underline and double stay (01 R14,
log entry 16). -/
theorem takeFormFeed_empty_append {s : State} (hcells : s.la.ctl.cells = [])
    (happend : canAppend 1 s.pq = true) (hbusy : s.pe.engine ≠ .idle) :
    takeFormFeed .ctl s = .taken { s with
      la := { s.la with ctl := { s.la.ctl with column := 0 } }
      pq := { s.pq with entries := s.pq.entries ++ [feedEntry .ctl 96] } } := by
  refine ((if_pos (List.isEmpty_iff.2 hcells)).trans (if_pos happend)).trans ?_
  rw [appendEntries_busy (by exact hbusy)]
  rfl

/-- 0Ch into a line without a cell, the append refused. -/
theorem takeFormFeed_empty_refused {s : State} (hcells : s.la.ctl.cells = [])
    (hrefused : canAppend 1 s.pq = false) : takeFormFeed .ctl s = .refused s := by
  refine ((if_pos (List.isEmpty_iff.2 hcells)).trans (if_neg (by simp [hrefused]))).trans ?_
  exact closeTake_ctl_refused (es := [_]) hrefused

/-- 07h into a FAR line without waiting entries raises BELL, and the hold count starts again (01 R14,
R17). -/
theorem offerCode_far_bell {s : State} (hwait : s.la.far.waiting = []) :
    offerCode .far 0x07 .none s
      = .taken { s with raised := s.raised ++ [.bell], la := { s.la with farHoldMs := 0 } } := by
  have hline : (s.line .far).waiting.isEmpty = true := by rw [List.isEmpty_iff]; exact hwait
  unfold offerCode
  rw [hline]
  rfl

/-- 0Ch needs one place for its FEED, and one more for the entry of a line with a cell (01 R3, R14). -/
theorem takeFormFeed_refused {s : State} {places : Nat}
    (hplaces : places = if s.la.ctl.cells = [] then 1 else 2)
    (hfull : 40 < s.pq.entries.length + places ∨ s.pq.pendingBlock ≠ none ∨ s.pq.waitList ≠ []) :
    takeFormFeed .ctl s = .refused s := by
  by_cases hcells : s.la.ctl.cells = []
  · rw [if_pos hcells] at hplaces
    subst hplaces
    exact takeFormFeed_empty_refused hcells (canAppend_eq_false Nat.one_pos hfull)
  · rw [if_neg hcells] at hplaces
    subst hplaces
    rw [takeFormFeed_cells hcells]
    exact closeTake_ctl_refused (canAppend_eq_false Nat.two_pos hfull)

/-- Settles O20: PRINT TEXT by induction on its bytes, and the CTL line's answer to each class of
codes. -/
theorem printTextOffersEachByte : Obligations.PrintTextOffersEachByte := by
  refine ⟨fun s p hs hl => printText_count hs hl, fun s p hs hempty hne hlen hp => ?_, ?_⟩
  · have hfit : p.length ≤ (fontOf (s.opt 18)).columns := by
      show p.length ≤ (if s.tor.nums.getD 17 0 = 0 then Font.std else Font.cond).columns
      by_cases hstd : s.tor.nums.getD 17 0 = 0
      · rw [if_pos hstd] at hlen ⊢; exact hlen
      · rw [if_neg hstd] at hlen ⊢; exact hlen
    rw [printText_plain hs hempty hp hfit, plainLine, if_neg hne]
    rfl
  · rintro s _ _ _ _ put _ append rfl hwait rfl rfl rfl hput happend rfl
    obtain rfl : put = fun m => s.putLine .ctl m := funext hput
    obtain rfl : append = _ := funext fun es => funext (happend es)
    have control : ∀ b : Byte, (b.toNat < 0x20 ∨ b.toNat = 0x7F) →
        offerCode .ctl b .none s = takeControl .ctl b s := fun b => offerCode_ctl_control hwait
    refine ⟨fun b hlo hhi => ?_, ?_, control 0x0D (by decide), ?_, control 0x08 (by decide),
      control 0x0E (by decide), control 0x0F (by decide), control 0x16 (by decide),
      control 0x17 (by decide), fun b hb hother => ?_, offerCode_far_bell⟩
    · rw [offerCode_ctl_printable hwait hlo hhi]
      refine ⟨fun hroom => ⟨_, takePrintable_room hroom, rfl, fun p => mem_placeCode, placeCode_pairwise⟩,
        fun hfull => ⟨takePrintable_discard hfull, fun hwrap => ⟨fun hcells => ?_, fun hcells =>
          ⟨fun hrefused => ?_, fun hroom hblock hlist hbusy => ?_⟩⟩⟩⟩
      · rw [takePrintable_wrap_empty hfull hwrap hcells]
        simp only [placeCode, hcells, List.filter_nil, insertPlaced, Nat.zero_add]
        rfl
      · exact takePrintable_wrap_refused hfull hwrap hcells
          (canAppend_eq_false Nat.one_pos (hrefused.imp_left fun h => by omega))
      · exact takePrintable_wrap_append hwait hfull hwrap hcells
          (canAppend_of_room Nat.one_pos (by omega) hblock hlist) hbusy
    · rintro places hplaces
      rw [control 0x0A (by decide), control 0x0C (by decide)]
      refine ⟨fun hfull => ?_, fun hfull => takeFormFeed_refused hplaces hfull,
        fun hblock hlist hbusy => ⟨fun hroom => ?_, fun hroom => ?_⟩⟩
      · exact closeTake_ctl_refused (es := [_])
          (canAppend_eq_false (k := 1) Nat.one_pos (hfull.imp_left fun h => by omega))
      · refine (closeTake_ctl_append (es := [_]) (canAppend_of_room (k := 1) Nat.one_pos (by omega) hblock hlist)
          hbusy).trans ?_
        rw [clearLine_ctl, hwait]
        rfl
      · show takeFormFeed .ctl s = _
        by_cases hcells : s.la.ctl.cells = []
        · rw [if_pos hcells] at hplaces ⊢
          exact takeFormFeed_empty_append hcells (canAppend_of_room Nat.one_pos (by omega) hblock hlist) hbusy
        · rw [if_neg hcells] at hplaces ⊢
          have happend := canAppend_of_room (k := 2) Nat.two_pos (by omega) hblock hlist
          rw [takeFormFeed_cells hcells, closeTake_ctl_append (es := [_, _]) happend hbusy, clearLine_ctl,
            hwait]
          rfl
    · rw [control 0x09 (by decide), Nat.mul_comm]
      rfl
    · rw [control b hb, takeControl_ctl_other hother]

end Sys2Proof.Machine

/-! PROOFS: what leaves a pending block and the form's phase. -/

namespace Sys2Proof.Machine

/-! ### The view of the invariant

`BlockPendsWithForm` reads two things of the state: whether a FORM block is pending, and the phase of the
form. Most operations of the machine keep both; the lemmas named `…_view` say so, in the order of the
model's files. -/

/-- Whether a FORM block is pending, and the form's phase where there is a form. -/
def State.blockView (s : State) : Bool × Option FormState :=
  (s.pq.pendingBlock.isSome, s.fu.inst.map FormInst.phase)

/-- The four views in which the block pends with the form: no form, OPEN, COMMIT PENDING with its block,
REPORTING. -/
theorem blockPendsWithForm_iff (s : State) :
    BlockPendsWithForm s ↔ s.blockView ∈ [(false, none), (false, some FormState.opened),
      (true, some FormState.pending), (false, some FormState.reporting)] := by
  unfold BlockPendsWithForm State.blockView
  cases s.pq.pendingBlock <;> cases s.fu.inst with
  | none => simp
  | some i => cases hphase : i.phase <;> simp [hphase]

theorem BlockPendsWithForm.of_view {s t : State} (hs : BlockPendsWithForm s)
    (hv : t.blockView = s.blockView) : BlockPendsWithForm t := by
  rw [blockPendsWithForm_iff] at hs ⊢
  rwa [hv]

@[simp] theorem onPe_view (f) (s : State) : (s.onPe f).blockView = s.blockView := rfl
@[simp] theorem onLink_view (f) (s : State) : (s.onLink f).blockView = s.blockView := rfl
@[simp] theorem onFramer_view (f) (s : State) : (s.onFramer f).blockView = s.blockView := rfl
@[simp] theorem onKs_view (f) (s : State) : (s.onKs f).blockView = s.blockView := rfl
@[simp] theorem onPort_view (f) (s : State) : (s.onPort f).blockView = s.blockView := rfl
@[simp] theorem onStore_view (f) (s : State) : (s.onStore f).blockView = s.blockView := rfl
@[simp] theorem onPins_view (f) (s : State) : (s.onPins f).blockView = s.blockView := rfl
@[simp] theorem raise_view (n : Notice) (s : State) : (raise n s).blockView = s.blockView := rfl
@[simp] theorem placeNotices_view (s : State) : (placeNotices s).blockView = s.blockView := rfl
@[simp] theorem putLine_view (nm : LineName) (l : OpenLine) (s : State) :
    (s.putLine nm l).blockView = s.blockView := rfl
@[simp] theorem raiseFormState_view (st : FormState) (n : Nat) (c : FormCause) (o : Origin) (s : State) :
    (raiseFormState st n c o s).blockView = s.blockView := rfl
@[simp] theorem putInst_view (i : Option FormInst) (s : State) :
    (putInst i s).blockView = (s.pq.pendingBlock.isSome, i.map FormInst.phase) := rfl

theorem OnlyEngine.view {s t : State} (h : OnlyEngine s t) : t.blockView = s.blockView := by
  rw [h]; rfl

theorem OnlyFramer.view {s t : State} (h : OnlyFramer s t) : t.blockView = s.blockView := by
  rw [h]; rfl

/-- A form put in place of one of the same phase. -/
theorem putInst_same_view {i j : FormInst} {s : State} (hi : s.fu.inst = some i) (hj : j.phase = i.phase) :
    (putInst (some j) s).blockView = s.blockView := by
  simp [State.blockView, hi, hj]

/-! ### Framer and engine (03, 05) -/

@[simp] theorem txPump_view (s : State) : (txPump s).blockView = s.blockView := (txPump_only s).view
@[simp] theorem addData_view (bs : List Byte) (s : State) : (addData bs s).blockView = s.blockView :=
  (addData_only bs s).view
@[simp] theorem pauseTest_view (s : State) : (pauseTest s).blockView = s.blockView := (pauseTest_only s).view
@[simp] theorem queueResume_view (s : State) : (queueResume s).blockView = s.blockView :=
  (queueResume_only s).view
@[simp] theorem removeRxfHead_view (s : State) : (removeRxfHead s).blockView = s.blockView :=
  (removeRxfHead_only s).view
@[simp] theorem clearRxf_view (s : State) : (clearRxf s).blockView = s.blockView := (clearRxf_only s).view

@[simp] theorem takeCharacter_view (b : Byte) (e : ErrKind) (s : State) :
    (takeCharacter b e s).blockView = s.blockView := by
  unfold takeCharacter
  dsimp only
  split
  · simp
  · split
    · split <;> simp
    · split <;> simp

@[simp] theorem setCause_view (c : HoldCause) (s : State) : (setCause c s).blockView = s.blockView :=
  (setCause_engine c s).view
@[simp] theorem engineDecide_view (s : State) : (engineDecide s).blockView = s.blockView :=
  (engineDecide_engine s).view
@[simp] theorem addCause_view (c : HoldCause) (s : State) : (addCause c s).blockView = s.blockView :=
  (addCause_engine c s).view
@[simp] theorem removeCause_view (c : HoldCause) (s : State) : (removeCause c s).blockView = s.blockView :=
  (removeCause_engine c s).view
@[simp] theorem beginFiring_view (inp : RowInputs) (s : State) :
    (beginFiring inp s).blockView = s.blockView := (beginFiring_engine inp s).view
@[simp] theorem leverAtBoundary_view (s : State) : (leverAtBoundary s).blockView = s.blockView :=
  (leverAtBoundary_engine s).view

@[simp] theorem doRowTemperature_view (t : Int) (s : State) :
    (doRowTemperature t s).blockView = s.blockView := by
  unfold doRowTemperature
  split
  · dsimp only; split <;> simp
  · rfl

/-! ### Lines (01) -/

@[simp] theorem appendEntries_view (es : List Entry) (s : State) :
    (appendEntries es s).blockView = s.blockView :=
  (offerHead_engine _).view

@[simp] theorem clearLine_view (nm : LineName) (s : State) : (clearLine nm s).blockView = s.blockView := by
  cases nm <;> rfl

theorem closeLine_view {nm : LineName} {es : List Entry} {s t : State} (h : closeLine nm es s = some t) :
    t.blockView = s.blockView := by
  unfold closeLine at h
  split at h
  · cases h; simp
  · cases nm <;> cases h <;> rfl

@[simp] theorem commitRequest_view (nm : LineName) (s : State) :
    (commitRequest nm s).blockView = s.blockView := by
  unfold commitRequest
  split
  · rfl
  · cases hclose : closeLine nm [commitEntry s nm] s with
    | none => rfl
    | some t => exact closeLine_view hclose

theorem closeTake_view (nm : LineName) (es : List Entry) (s : State) :
    (closeTake nm es s).state.blockView = s.blockView := by
  unfold closeTake
  cases hclose : closeLine nm es s with
  | none => rfl
  | some t => exact closeLine_view hclose

theorem takePrintable_view (nm : LineName) (b : Byte) (e : Bool) (s : State) :
    (takePrintable nm b e s).state.blockView = s.blockView := by
  unfold takePrintable
  dsimp only
  split
  · rfl
  · split
    · split
      · rfl
      · cases hclose : closeLine nm [commitEntry s nm] s with
        | none => rfl
        | some t =>
          have hview := closeLine_view hclose
          dsimp only
          split <;> exact hview
    · rfl

theorem takeFormFeed_view (nm : LineName) (s : State) : (takeFormFeed nm s).state.blockView = s.blockView := by
  unfold takeFormFeed
  dsimp only
  split
  · split
    · exact appendEntries_view _ _
    · exact closeTake_view _ _ _
  · exact closeTake_view _ _ _

theorem takeControl_view (nm : LineName) (b : Byte) (s : State) :
    (takeControl nm b s).state.blockView = s.blockView := by
  unfold takeControl
  dsimp only
  split
  case h_1 => exact closeTake_view _ _ _
  case h_2 => exact takeFormFeed_view _ _
  case h_10 => cases nm <;> rfl
  all_goals rfl

/-- A code offered to a line leaves a pending block and the form's phase (01 R12 to R14). -/
theorem offerCode_view (nm : LineName) (b : Byte) (e : ErrKind) (s : State) :
    (offerCode nm b e s).state.blockView = s.blockView := by
  unfold offerCode
  split
  · rfl
  · have htake : (if printableCode b e then takePrintable nm b (e ≠ .none) s
        else takeControl nm b s).state.blockView = s.blockView := by
      split
      · exact takePrintable_view _ _ _ _
      · exact takeControl_view _ _ _
    split <;> rename_i hoffer <;> rw [hoffer] at htake
    · cases nm <;> exact htake
    · exact htake

theorem offerCode_taken_view {nm : LineName} {b : Byte} {e : ErrKind} {s t : State}
    (h : offerCode nm b e s = .taken t) : t.blockView = s.blockView := by
  have := offerCode_view nm b e s
  rwa [h] at this

theorem offerCode_refused_view {nm : LineName} {b : Byte} {e : ErrKind} {s t : State}
    (h : offerCode nm b e s = .refused t) : t.blockView = s.blockView := by
  have := offerCode_view nm b e s
  rwa [h] at this

@[simp] theorem clampColumns_view (s : State) : (clampColumns s).blockView = s.blockView := rfl

/-! ### The print path (01, 06 R118, 09 R172) -/

@[simp] theorem offerHeld_view (s : State) : (offerHeld s).blockView = s.blockView := by
  unfold offerHeld
  split
  · split <;> rename_i hoffer
    · have hview := offerCode_taken_view hoffer
      dsimp only
      split
      · exact (removeRxfHead_view _).trans hview
      · exact hview
    · exact offerCode_refused_view hoffer
  · rfl

@[simp] theorem writeKeyOut_view (items : List KeyOutItem) (s : State) :
    (writeKeyOut items s).blockView = s.blockView := by
  induction items generalizing s with
  | nil => rfl
  | cons item rest ih =>
    cases item with
    | code b =>
      unfold writeKeyOut
      split <;> rename_i hoffer
      · exact (ih _).trans (offerCode_taken_view hoffer)
      · have hview := offerCode_refused_view hoffer
        exact hview
    | commit =>
      unfold writeKeyOut
      dsimp only
      split
      · exact (ih _).trans (commitRequest_view _ _)
      · exact commitRequest_view _ _

@[simp] theorem serveKeyOut_view (s : State) : (serveKeyOut s).blockView = s.blockView := by
  unfold serveKeyOut
  split
  · exact writeKeyOut_view _ _
  · rfl

@[simp] theorem giveCommit_view (s : State) : (giveCommit s).blockView = s.blockView := by
  unfold giveCommit
  split
  · exact serveKeyOut_view _
  · split <;> rfl

@[simp] theorem givePrompt_view (prompt : List Byte) (s : State) :
    (givePrompt prompt s).blockView = s.blockView :=
  serveKeyOut_view _

@[simp] theorem lineFreed_view (nm : LineName) (s : State) : (lineFreed nm s).blockView = s.blockView := by
  cases nm
  · exact offerHeld_view s
  · rfl
  · exact serveKeyOut_view s

/-- Lines are served only while no block is pending, and leave it so (01 R4). -/
@[simp] theorem serveLines_view (fuel : Nat) (s : State) : (serveLines fuel s).blockView = s.blockView := by
  induction fuel generalizing s with
  | zero => rfl
  | succ fuel ih =>
    unfold serveLines
    split
    · dsimp only
      split
      · rw [ih, lineFreed_view, appendEntries_view]; rfl
      · rfl
    · rfl

@[simp] theorem dropHead_view (s : State) : (dropHead s).blockView = s.blockView := by
  unfold dropHead
  dsimp only
  split
  · exact addCause_view _ _
  · rfl

@[simp] theorem purgeEntries_view (srcs : List Source) (s : State) :
    (purgeEntries srcs s).1.blockView = s.blockView := by
  unfold purgeEntries
  split
  · dsimp only
    split
    · split
      · split <;> rfl
      · exact dropHead_view _
    · rfl
  · rfl

/-! ### The link (04) -/

@[simp] theorem linkEnter_view (st : LinkState) (c : LinkCause) (s : State) :
    (linkEnter st c s).blockView = s.blockView := rfl

@[simp] theorem applyPendingGain_view (s : State) : (applyPendingGain s).blockView = s.blockView := by
  unfold applyPendingGain
  split <;> rfl

@[simp] theorem gainAtCharacter_view (s : State) : (gainAtCharacter s).blockView = s.blockView := by
  unfold gainAtCharacter
  split
  · rfl
  · split
    · split <;> rfl
    · rfl

@[simp] theorem gainChange_view (s : State) : (gainChange s).blockView = s.blockView := by
  unfold gainChange
  split <;> rfl

@[simp] theorem onlineStarts_view (s : State) : (onlineStarts s).blockView = s.blockView := txPump_view _

@[simp] theorem onlineEnds_view (s : State) : (onlineEnds s).blockView = s.blockView :=
  applyPendingGain_view _

@[simp] theorem startConnection_view (r : Role) (c : LinkCause) (s : State) :
    (startConnection r c s).blockView = s.blockView := rfl

@[simp] theorem carrierRises_view (level : Int) (s : State) :
    (carrierRises level s).blockView = s.blockView := by
  unfold carrierRises
  split <;> simp

@[simp] theorem carrierFalls_view (s : State) : (carrierFalls s).blockView = s.blockView := by
  unfold carrierFalls
  split <;> simp

@[simp] theorem measureLevel_view (level : Int) (s : State) :
    (measureLevel level s).blockView = s.blockView := by
  unfold measureLevel
  dsimp only
  split <;> simp

@[simp] theorem thresholdWritten_view (old : Int) (s : State) :
    (thresholdWritten old s).blockView = s.blockView := by
  unfold thresholdWritten
  split
  · rfl
  · rfl
  · split
    · simp
    · split <;> simp

@[simp] theorem qualifyDone_view (s : State) : (qualifyDone s).blockView = s.blockView := by
  simp [qualifyDone]

@[simp] theorem startBreakSend_view (s : State) : (startBreakSend s).blockView = s.blockView := rfl

/-! ### The form unit's operations that keep the phase (09) -/

@[simp] theorem writePrompt_view (s : State) : (writePrompt s).blockView = s.blockView := by
  unfold writePrompt
  split
  · split <;> simp
  · rfl

@[simp] theorem recomputeForm_view (s : State) : (recomputeForm s).blockView = s.blockView := by
  unfold recomputeForm
  split
  · next i hi =>
    split
    · exact putInst_same_view hi rfl
    · rfl
  · rfl

theorem refuseForm_view (o : Origin) (n : Nat) (c : FormCause) (r : RespCode) (s : State) :
    (refuseForm o n c r s).1.blockView = s.blockView := by
  unfold refuseForm
  dsimp only
  split <;> rfl

theorem storeField_view {i : FormInst} {s : State} (hi : s.fu.inst = some i) (o : Origin) (f : Field)
    (v : Value) : (storeField o f v i s).blockView = s.blockView := by
  unfold storeField
  dsimp only
  rw [raise_view, recomputeForm_view]
  refine putInst_same_view hi ?_
  split <;> rfl

@[simp] theorem writeField_view (o : Origin) (id : Nat) (bs : List Byte) (s : State) :
    (writeField o id bs s).1.blockView = s.blockView := by
  unfold writeField
  split
  · next i hi =>
    split
    · rfl
    · split
      · rfl
      · split
        · rfl
        · split
          · rfl
          · exact storeField_view hi _ _ _
  · rfl

theorem offerKeyCodes_view (bs : List Byte) (s : State) :
    (offerKeyCodes bs s).state.blockView = s.blockView := by
  induction bs generalizing s with
  | nil => rfl
  | cons b bs ih =>
    unfold offerKeyCodes
    split <;> rename_i hoffer
    · exact (ih _).trans (offerCode_taken_view hoffer)
    · exact offerCode_refused_view hoffer

theorem offerKeyCodes_inst {bs : List Byte} {s t : State} (h : offerKeyCodes bs s = .taken t) :
    t.fu.inst = s.fu.inst := by
  have honly : OnlyLines s t := by
    have := offerKeyCodes_only bs s
    rwa [h] at this
  rw [honly]

theorem editField_view {i : FormInst} {s : State} (hi : s.fu.inst = some i) (f : Field) (code : Byte) :
    (editField f code i s).blockView = s.blockView := by
  unfold editField
  dsimp only
  rw [recomputeForm_view]
  exact putInst_same_view hi rfl

/-- A keyed code edits a field or changes nothing of the form (09 R174). -/
@[simp] theorem keyedCode_view (code : Byte) (s : State) : (keyedCode code s).1.blockView = s.blockView := by
  rcases keyedCode_cases (code := code) (s := s) (t := (keyedCode code s).1) rfl with
    ⟨-, ht⟩ | ⟨i, f, hi, -, -, -, ⟨-, -, ht⟩ | ⟨u, -, -, hu, ht⟩ | ⟨u, -, -, hu, ht⟩⟩
  · rw [ht]
  · rw [ht, editField_view hi]
  · have hview := offerKeyCodes_view (echoCodes s.ks.echoBegun code) s
    rw [hu] at hview
    rw [ht, editField_view ((offerKeyCodes_inst hu).trans hi)]
    exact hview
  · have hview := offerKeyCodes_view (echoCodes s.ks.echoBegun code) s
    rw [hu] at hview
    rw [ht]
    exact hview

@[simp] theorem moveField_view (back : Bool) (s : State) : (moveField back s).blockView = s.blockView := by
  unfold moveField
  split
  · next i hi =>
    split
    · exact (writePrompt_view _).trans (putInst_same_view hi rfl)
    · rfl
  · rfl

theorem rejectCommit_view {i : FormInst} {s : State} (hi : s.fu.inst = some i) (f : Field) :
    (rejectCommit f i s).blockView = s.blockView := by
  unfold rejectCommit
  split
  · exact (writePrompt_view _).trans (putInst_same_view hi rfl)
  · rfl

/-! ### Router and keyboard (07, 08) -/

@[simp] theorem sendCode_view (toFar toCtl : Bool) (b : Byte) (ev : KeyEvent) (s : State) :
    (sendCode toFar toCtl b ev s).blockView = s.blockView := by
  cases toFar <;> cases toCtl <;> simp [sendCode]

@[simp] theorem routeCode_view (b : Byte) (ev : KeyEvent) (s : State) :
    (routeCode b ev s).1.blockView = s.blockView := by
  unfold routeCode
  split
  · rfl
  · split
    · split <;> rename_i hoffer
      · exact (sendCode_view _ _ _ _ _).trans (offerCode_taken_view hoffer)
      · exact offerCode_refused_view hoffer
    · exact sendCode_view _ _ _ _ _

@[simp] theorem routeFormCode_view (b : Byte) (s : State) :
    (routeFormCode b s).1.blockView = s.blockView := by
  unfold routeFormCode
  split
  · rfl
  · exact keyedCode_view b s

@[simp] theorem feedKey_view (s : State) : (feedKey s).blockView = s.blockView := by
  unfold feedKey
  dsimp only
  split <;> split <;> simp

@[simp] theorem startKey_view (r : Role) (s : State) : (startKey r s).blockView = s.blockView := by
  unfold startKey
  split <;> rfl

@[simp] theorem enqueue_view (k : Nat) (kind : KeyKind) (s : State) :
    (enqueue k kind s).blockView = s.blockView := by
  unfold enqueue
  split
  · rfl
  · split <;> rfl

@[simp] theorem testMake_view (k : Nat) (s : State) : (testMake k s).blockView = s.blockView := by
  unfold testMake
  split
  · rfl
  · split
    · rfl
    · split
      · rfl
      · exact enqueue_view _ _ _

@[simp] theorem acceptBreak_view (k : Nat) (s : State) : (acceptBreak k s).blockView = s.blockView := by
  unfold acceptBreak
  dsimp only
  split <;> rfl

@[simp] theorem takeReading_view (k : Nat) (closed : Bool) (s : State) :
    (takeReading k closed s).blockView = s.blockView := by
  unfold takeReading
  split
  case h_1 => split <;> rfl
  case h_3 => split <;> simp
  case h_8 => split <;> simp
  all_goals rfl

@[simp] theorem takeReadings_view (r : Nat) (closed : BitVec 10) (s : State) :
    (takeReadings r closed s).blockView = s.blockView := by
  unfold takeReadings
  induction List.range 10 generalizing s with
  | nil => rfl
  | cons c cs ih => rw [List.foldl_cons, ih, takeReading_view]

@[simp] theorem typematicTest_view (r : Nat) (closed : BitVec 10) (s : State) :
    (typematicTest r closed s).blockView = s.blockView := by
  unfold typematicTest
  split
  · split
    · exact enqueue_view _ _ _
    · rfl
  · rfl

@[simp] theorem rowScan_view (closed : BitVec 10) (s : State) :
    (rowScan closed s).blockView = s.blockView := by
  unfold rowScan
  split
  · dsimp only; simp
  · rfl

@[simp] theorem askScan_view (s : State) : (askScan s).blockView = s.blockView := by
  unfold askScan
  split <;> rfl

@[simp] theorem typematicRunsOut_view (s : State) : (typematicRunsOut s).blockView = s.blockView := by
  unfold typematicRunsOut
  split <;> rfl

/-! ### Option writes but for an examination, and replies (06, 10) -/

@[simp] theorem flowWritten_view (old : Int) (s : State) : (flowWritten old s).blockView = s.blockView := by
  unfold flowWritten
  split
  · simp
  · split <;> simp

@[simp] theorem farPauseWritten_view (old : Int) (s : State) :
    (farPauseWritten old s).blockView = s.blockView := by
  unfold farPauseWritten
  split <;> simp

@[simp] theorem holdTimeWritten_view (s : State) : (holdTimeWritten s).blockView = s.blockView := by
  unfold holdTimeWritten
  split <;> simp

@[simp] theorem giveReply_view (r : List Byte) (s : State) : (giveReply r s).blockView = s.blockView := by
  unfold giveReply
  split
  · rfl
  · split
    · simp
    · rfl

@[simp] theorem addReply_view (s : State) : (addReply s).blockView = s.blockView := by
  unfold addReply
  split
  · split
    · exact addData_view _ _
    · rfl
  · rfl

@[simp] theorem offerAttribute_view (code : Byte) (s : State) :
    (offerAttribute code s).blockView = s.blockView :=
  offerHeld_view _

@[simp] theorem takeText_view (e : RxEntry) (s : State) : (takeText e s).blockView = s.blockView := by
  unfold takeText
  split
  · exact removeRxfHead_view s
  · exact offerHeld_view _

@[simp] theorem directiveTimedOut_view (s : State) : (directiveTimedOut s).blockView = s.blockView := by
  unfold directiveTimedOut
  split <;> rfl

/-! ### Power, sensors and the bus (03, 11) -/

@[simp] theorem wakeByKey_view (closed atEntry : BitVec 80) (s : State) :
    (wakeByKey closed atEntry s).blockView = s.blockView := by
  unfold wakeByKey
  split
  · dsimp only; split <;> rfl
  · rfl

@[simp] theorem readSensors_view (s : State) : (readSensors s).blockView = s.blockView := by
  unfold readSensors
  dsimp only
  split <;> split <;> simp

@[simp] theorem startReload_view (s : State) : (startReload s).blockView = s.blockView := by
  unfold startReload
  split <;> rfl

@[simp] theorem endWaking_view (s : State) : (endWaking s).blockView = s.blockView := by
  unfold endWaking
  split <;> simp

@[simp] theorem assertReset_view (s : State) : (assertReset s).blockView = s.blockView := by
  unfold assertReset
  split <;> rfl

@[simp] theorem paperGone_view (s : State) : (paperGone s).blockView = s.blockView := by
  unfold paperGone
  dsimp only
  split
  · rfl
  · split <;> simp

@[simp] theorem paperCounted_view (s : State) : (paperCounted s).blockView = s.blockView := by
  unfold paperCounted
  split <;> simp

@[simp] theorem leverUpReport_view (s : State) : (leverUpReport s).blockView = s.blockView := by
  unfold leverUpReport
  dsimp only
  split
  · rfl
  · split <;> simp

@[simp] theorem leverCounted_view (s : State) : (leverCounted s).blockView = s.blockView := by
  unfold leverCounted
  split <;> simp

theorem sensorReport_view {f : State → State} (hf : ∀ u, (f u).blockView = u.blockView)
    (pin : Pins → Pins) (s : State) : (sensorReport pin f s).blockView = s.blockView := by
  unfold sensorReport
  dsimp only
  split
  · exact hf _
  · rfl

@[simp] theorem hotMeasured_view (t : Int) (s : State) : (hotMeasured t s).blockView = s.blockView := by
  unfold hotMeasured
  dsimp only
  split
  · split <;> simp
  · rfl

@[simp] theorem supplyMeasured_view (v : Nat) (s : State) :
    (supplyMeasured v s).blockView = s.blockView := by
  unfold supplyMeasured
  dsimp only
  split
  · split <;> simp
  · rfl

/-! ### Link events (04, 05) -/

@[simp] theorem carrierPresent_view (level : Int) (s : State) :
    (carrierPresent level s).blockView = s.blockView := by
  unfold carrierPresent
  split <;> simp

@[simp] theorem carrierAbsent_view (level : Int) (s : State) :
    (carrierAbsent level s).blockView = s.blockView := by
  unfold carrierAbsent
  split <;> simp

@[simp] theorem qualifyExpires_view (s : State) : (qualifyExpires s).blockView = s.blockView := by
  unfold qualifyExpires
  split <;> simp

@[simp] theorem characterCompletes_view (data : Byte) (parityBit stopMark : Bool) (level : Int)
    (s : State) : (characterCompletes data parityBit stopMark level s).blockView = s.blockView := by
  unfold characterCompletes
  split
  · simp [afterStopBit]
  · rfl

@[simp] theorem spaceBegins_view (midSpace : Bool) (s : State) :
    (spaceBegins midSpace s).blockView = s.blockView := by
  unfold spaceBegins
  dsimp only
  split
  · rfl
  · split
    · split <;> rfl
    · rfl

@[simp] theorem breakBecomesPending_view (s : State) :
    (breakBecomesPending s).blockView = s.blockView := by
  unfold breakBecomesPending
  split <;> rfl

@[simp] theorem breakSendEnds_view (s : State) : (breakSendEnds s).blockView = s.blockView := by
  unfold breakSendEnds
  split <;> simp

@[simp] theorem transmitEnds_view (s : State) : (transmitEnds s).blockView = s.blockView := by
  unfold transmitEnds
  dsimp only
  split
  · rfl
  · split <;> simp

end Sys2Proof.Machine

/-! PROOFS: every step keeps the block with its form (O60). -/

namespace Sys2Proof.Machine

/-! ### A pending block and the form, operation by operation

A lemma named `…_keeps` says of an operation that can change the view that the block pends with the form
behind it. -/

section Keeps

variable {s : State}

/-- No block is pending while the form is not COMMIT PENDING. -/
theorem BlockPendsWithForm.no_block (hs : BlockPendsWithForm s)
    (h : ∀ i, s.fu.inst = some i → i.phase ≠ .pending) : s.pq.pendingBlock = none := by
  refine Decidable.not_not.1 fun hblock => ?_
  obtain ⟨i, hi, hpending⟩ := hs.1.1 hblock
  exact h i hi hpending

/-- Without a block and without a form the rule holds. -/
theorem blockPendsWithForm_closed (hblock : s.pq.pendingBlock = none) (hinst : s.fu.inst = none) :
    BlockPendsWithForm s := by
  simp [blockPendsWithForm_iff, State.blockView, hblock, hinst]

theorem pendingBlock_none_of_view {t : State} (hv : t.blockView = s.blockView)
    (hblock : s.pq.pendingBlock = none) : t.pq.pendingBlock = none := by
  have hsome : t.pq.pendingBlock.isSome = s.pq.pendingBlock.isSome := congrArg Prod.fst hv
  simpa [hblock] using hsome

theorem appendEntries_pendingBlock (es : List Entry) (s : State) :
    (appendEntries es s).pq.pendingBlock = s.pq.pendingBlock := by
  rw [appendEntries_pq]

/-! ### The print path (01) -/

/-- Behind an append the form is REPORTING or CLOSED, and no block is pending (09 R184). -/
theorem formAppended_keeps (o : Origin) (hblock : s.pq.pendingBlock = none) :
    BlockPendsWithForm (formAppended o s) := by
  rw [blockPendsWithForm_iff]
  unfold formAppended
  split
  · split <;> simp [hblock]
  · next hinst => simp [State.blockView, hblock, hinst]

theorem appendPendingBlock_keeps (hs : BlockPendsWithForm s) : BlockPendsWithForm (appendPendingBlock s) := by
  unfold appendPendingBlock
  split
  · split
    · exact formAppended_keeps _ (appendEntries_pendingBlock _ _)
    · exact hs
  · exact hs

theorem serveWaitList_keeps (hs : BlockPendsWithForm s) : BlockPendsWithForm (serveWaitList s) :=
  (appendPendingBlock_keeps hs).of_view (serveLines_view _ _)

/-- A block is withdrawn once its form is CLOSED (01 R6). -/
theorem withdrawBlock_keeps (hinst : s.fu.inst = none) : BlockPendsWithForm (withdrawBlock s) := by
  unfold withdrawBlock
  split
  · next hblock => exact blockPendsWithForm_closed (Option.isNone_iff_eq_none.1 hblock) hinst
  · exact serveWaitList_keeps (blockPendsWithForm_closed rfl hinst)

theorem entryRowDone_keeps (hs : BlockPendsWithForm s) : BlockPendsWithForm (entryRowDone s) := by
  unfold entryRowDone
  split
  · dsimp only
    split
    · exact serveWaitList_keeps (hs.of_view (dropHead_view _))
    · split
      · refine serveWaitList_keeps (hs.of_view ((dropHead_view _).trans ?_))
        split <;> rfl
      · exact hs.of_view rfl
  · exact hs

theorem rowEnd_keeps (hs : BlockPendsWithForm s) : BlockPendsWithForm (rowEnd s) := by
  unfold rowEnd
  dsimp only
  split
  · exact hs.of_view ((engineDecide_view _).trans (leverAtBoundary_view _))
  · exact (entryRowDone_keeps hs).of_view ((engineDecide_view _).trans (leverAtBoundary_view _))

theorem motorSteps_keeps (v : Nat) (hs : BlockPendsWithForm s) : BlockPendsWithForm (motorSteps v s) := by
  unfold motorSteps
  split
  · exact rowEnd_keeps (hs.of_view rfl)
  · exact hs

/-! ### The link (04) -/

/-- A report is abandoned in REPORTING only, where no block is pending (09 R186). -/
theorem abandonReport_keeps (hs : BlockPendsWithForm s) : BlockPendsWithForm (abandonReport s) := by
  unfold abandonReport
  split
  · next i hi =>
    split
    · next hphase =>
      exact blockPendsWithForm_closed (hs.no_block fun j hj => by
        obtain rfl : i = j := Option.some.inj (hi.symm.trans hj)
        simp [hphase]) rfl
    · exact hs
  · exact hs

theorem enterDown_keeps (c : LinkCause) (noCarrier : Bool) (hs : BlockPendsWithForm s) :
    BlockPendsWithForm (enterDown c noCarrier s) := by
  cases noCarrier <;>
  · unfold enterDown
    dsimp only
    split
    · exact hs.of_view ((removeCause_view _ _).trans (applyPendingGain_view _))
    · split
      · exact abandonReport_keeps (hs.of_view ((commitRequest_view _ _).trans (applyPendingGain_view _)))
      · exact hs.of_view (applyPendingGain_view _)

theorem receiveBreak_keeps (hs : BlockPendsWithForm s) : BlockPendsWithForm (receiveBreak s) :=
  serveWaitList_keeps (hs.of_view ((purgeEntries_view _ _).trans (clearRxf_view _)))

/-! ### The form unit (09) -/

/-- A form is opened where there is none, and so no block is pending (09 R171). -/
theorem openForm_keeps (o : Origin) (n : Nat) (hs : BlockPendsWithForm s) :
    BlockPendsWithForm (openForm o n s).1 := by
  unfold openForm
  split
  · exact hs.of_view (refuseForm_view _ _ _ _ _)
  · next hnone =>
    have hinst : s.fu.inst = none := by simpa using hnone
    split
    · exact hs.of_view (refuseForm_view _ _ _ _ _)
    · have hblock : s.pq.pendingBlock = none := hs.no_block fun i hi => by simp [hinst] at hi
      simp [blockPendsWithForm_iff, hblock, newInstance, recompute, FormInst.setCurrent]

/-- A rendered block is appended at once, or pends. -/
theorem handOverBlock_cases (b : List Entry) (s : State) :
    handOverBlock b s = (appendEntries b s, true)
      ∨ handOverBlock b s = (s.onPq fun pq => { pq with pendingBlock := some b }, false) := by
  unfold handOverBlock
  split
  · exact .inl rfl
  · exact .inr rfl

/-- An accepted commit of an OPEN form: its block is appended, or pends with the form COMMIT PENDING
(01 R5, 09 R184). -/
theorem acceptCommit_keeps {i : FormInst} (o : Origin) (hs : BlockPendsWithForm s)
    (hi : s.fu.inst = some i) (hopen : i.phase = .opened) : BlockPendsWithForm (acceptCommit o i s) := by
  have hblock : s.pq.pendingBlock = none := hs.no_block fun j hj => by
    obtain rfl : i = j := Option.some.inj (hi.symm.trans hj)
    simp [hopen]
  have hblock1 : (giveCommit s).pq.pendingBlock = none :=
    pendingBlock_none_of_view (giveCommit_view s) hblock
  unfold acceptCommit
  dsimp only
  rcases handOverBlock_cases (formBlock (giveCommit s).formTemplate i.vals ((giveCommit s).opt 19).toNat
    ((giveCommit s).opt 30).toNat ((giveCommit s).opt 29 = 1)) (giveCommit s) with h | h <;> rw [h]
  · exact formAppended_keeps o ((appendEntries_pendingBlock _ _).trans hblock1)
  · simp [blockPendsWithForm_iff]

theorem commitForm_keeps (o : Origin) (hs : BlockPendsWithForm s) :
    BlockPendsWithForm (commitForm o s).1 := by
  unfold commitForm
  split
  · next i hi =>
    split
    · exact hs.of_view (refuseForm_view _ _ _ _ _)
    · next hopen =>
      split
      · refine hs.of_view ?_
        dsimp only
        split
        · exact rejectCommit_view hi _
        · exact rejectCommit_view hi _
      · exact acceptCommit_keeps o hs hi (Decidable.not_not.1 hopen)
  · exact hs.of_view (refuseForm_view _ _ _ _ _)

/-- The phase of the form that `formState` reads. -/
theorem exists_inst_of_formState {st : FormState} (h : formState s = st) (hst : st ≠ .closed) :
    ∃ i, s.fu.inst = some i ∧ i.phase = st := by
  unfold formState at h
  split at h
  · next i hi => exact ⟨i, hi, h⟩
  · exact absurd h.symm hst

/-- An OPEN form closes without a block, a COMMIT PENDING one with its block withdrawn (09 R187). -/
theorem cancelForm_keeps (o : Origin) (hs : BlockPendsWithForm s) :
    BlockPendsWithForm (cancelForm o s).1 := by
  unfold cancelForm
  split
  · next hform =>
    obtain ⟨i, hi, hopen⟩ := exists_inst_of_formState hform (by decide)
    exact blockPendsWithForm_closed (hs.no_block fun j hj => by
      obtain rfl : i = j := Option.some.inj (hi.symm.trans hj)
      simp [hopen]) rfl
  · exact withdrawBlock_keeps rfl
  · exact hs.of_view (refuseForm_view _ _ _ _ _)

theorem feedReport_keeps (hs : BlockPendsWithForm s) : BlockPendsWithForm (feedReport s) := by
  unfold feedReport
  split
  · next i hi =>
    split
    · next hphase _ =>
      have hblock : ∀ bs, (addData bs s).pq.pendingBlock = none := fun bs =>
        pendingBlock_none_of_view (addData_view bs s) (hs.no_block fun j hj => by
          obtain rfl : i = j := Option.some.inj (hi.symm.trans hj)
          simp [hphase])
      split
      · dsimp only
        split <;> simp [blockPendsWithForm_iff, hblock, hphase]
      · exact hs
    · exact hs
  · exact hs

/-! ### The router (08) -/

theorem dropKey_keeps (hs : BlockPendsWithForm s) : BlockPendsWithForm (dropKey s) := by
  unfold dropKey
  split
  · exact hs
  · exact enterDown_keeps _ _ hs

theorem act_keeps (a : Action) (hs : BlockPendsWithForm s) : BlockPendsWithForm (act a s) := by
  cases a with
  | breakKey => unfold act; dsimp only; split <;> exact hs.of_view rfl
  | feedKey => exact hs.of_view (feedKey_view s)
  | orig => exact hs.of_view (startKey_view _ s)
  | ans => exact hs.of_view (startKey_view _ s)
  | drop => exact dropKey_keeps hs
  | fieldNext => exact hs.of_view (moveField_view _ s)
  | fieldBack => exact hs.of_view (moveField_view _ s)
  | formEnter => exact commitForm_keeps _ hs
  | formCancel => exact cancelForm_keeps _ hs
  | openForm n => exact openForm_keeps _ n hs
  | localKey => exact hs
  | shift => exact hs
  | ctrl => exact hs
  | func => exact hs

theorem routeEvent_keeps (ev : KeyEvent) (hs : BlockPendsWithForm s) :
    BlockPendsWithForm (routeEvent ev s).1 := by
  unfold routeEvent
  split
  · exact hs
  · split
    · exact hs
    · split
      · exact hs.of_view (routeCode_view _ _ s)
      · exact hs.of_view (routeFormCode_view _ s)
  · unfold routeAction
    split
    · exact hs
    · split
      · exact hs
      · exact act_keeps _ (hs.of_view rfl)

theorem examineHead_keeps (fuel : Nat) (hs : BlockPendsWithForm s) :
    BlockPendsWithForm (examineHead fuel s) := by
  induction fuel generalizing s with
  | zero => exact hs
  | succ fuel ih =>
    unfold examineHead
    split
    · exact hs
    · next ev _ _ =>
      have hroute := routeEvent_keeps ev hs
      split <;> rename_i hev <;> rw [hev] at hroute
      · exact ih (hroute.of_view rfl)
      · exact hroute

theorem examine_keeps (hs : BlockPendsWithForm s) : BlockPendsWithForm (examine s) :=
  examineHead_keeps _ hs

/-! ### Option writes (10) -/

theorem optionActs_keeps (n : Nat) (old : Int) (hs : BlockPendsWithForm s) :
    BlockPendsWithForm (optionActs n old s) := by
  unfold optionActs
  split
  · exact examine_keeps hs
  · exact hs.of_view (flowWritten_view _ s)
  · exact hs.of_view (farPauseWritten_view _ s)
  · exact hs.of_view (gainChange_view s)
  · split
    · exact hs.of_view (gainChange_view s)
    · exact hs
  · split
    · exact hs.of_view (applyPendingGain_view s)
    · exact hs
  · exact hs.of_view (thresholdWritten_view _ s)
  · exact hs.of_view (clampColumns_view s)
  · exact hs.of_view (holdTimeWritten_view s)
  · exact hs.of_view (recomputeForm_view s)
  · exact examine_keeps hs
  · exact examine_keeps hs
  · exact examine_keeps hs
  · exact hs

theorem storeNumber_keeps (n : Nat) (x : Int) (hs : BlockPendsWithForm s) :
    BlockPendsWithForm (storeNumber n x s) :=
  optionActs_keeps _ _ (hs.of_view rfl)

theorem farWrite_keeps (w : FarWrite) (hs : BlockPendsWithForm s) : BlockPendsWithForm (farWrite w s) := by
  rcases farWrite_cases w s with ⟨r, h⟩ | ⟨-, h⟩ | ⟨x, -, -, -, -, -, h⟩ <;> rw [h]
  · exact hs
  · exact hs
  · exact storeNumber_keeps _ _ hs

theorem cmdSetOption_keeps (p : List Byte) (hs : BlockPendsWithForm s) :
    BlockPendsWithForm (cmdSetOption p s).1 := by
  unfold cmdSetOption
  split
  · exact hs
  · split
    · exact hs
    · split
      · exact hs
      · split
        · exact hs
        · split
          · exact hs
          · unfold setOptionValue
            split
            · split <;> exact hs
            · dsimp only; split <;> exact hs
            · split
              · exact storeNumber_keeps _ _ hs
              · exact hs

/-! ### The directive parser (06) -/

theorem handOption_keeps (w : FarWrite) (hs : BlockPendsWithForm s) :
    BlockPendsWithForm (handOption w s) := by
  unfold handOption
  split
  · exact hs
  · exact farWrite_keeps w hs

theorem storeHandover_keeps (hs : BlockPendsWithForm s) : BlockPendsWithForm (storeHandover s) := by
  unfold storeHandover
  split
  · exact farWrite_keeps _ hs
  · exact hs

theorem carryOut_keeps (d : Directive) (bs : List Byte) (hs : BlockPendsWithForm s) :
    BlockPendsWithForm (carryOut d bs s) := by
  cases d with
  | o => exact handOption_keeps _ hs
  | k => exact handOption_keeps _ hs
  | f => exact openForm_keeps _ _ hs
  | v => exact hs.of_view (writeField_view _ _ _ s)
  | c => exact commitForm_keeps _ hs
  | x => exact cancelForm_keeps _ hs
  | u => exact hs.of_view (offerAttribute_view _ s)
  | w => exact hs.of_view (offerAttribute_view _ s)
  | l => exact hs.of_view (commitRequest_view _ s)
  | q => exact hs.of_view (giveReply_view _ s)
  | a => exact hs.of_view (giveReply_view _ s)
  | g => exact hs.of_view (giveReply_view _ s)

theorem takeLetter_keeps (e : RxEntry) (hs : BlockPendsWithForm s) :
    BlockPendsWithForm (takeLetter e s) := by
  unfold takeLetter
  split
  · exact hs
  · split
    · exact hs
    · split
      · exact hs
      · split
        · exact carryOut_keeps _ _ hs
        · exact hs

theorem takeArg_keeps (d : Directive) (bs : List Byte) (e : RxEntry) (hs : BlockPendsWithForm s) :
    BlockPendsWithForm (takeArg d bs e s) := by
  unfold takeArg
  split
  · exact hs
  · split
    · exact hs
    · split
      · exact hs
      · split
        · exact hs
        · exact hs
        · exact carryOut_keeps _ _ hs

theorem takeDirectiveByte_keeps (hs : BlockPendsWithForm s) : BlockPendsWithForm (takeDirectiveByte s) := by
  unfold takeDirectiveByte
  split
  · exact hs
  · split
    · exact hs.of_view (takeText_view _ s)
    · exact takeLetter_keeps _ (hs.of_view (removeRxfHead_view s))
    · exact takeArg_keeps _ _ _ (hs.of_view (removeRxfHead_view s))
    · exact hs

/-! ### Store, reset and link events (04, 11) -/

theorem writeDone_keeps (st : SaveStage) (page : Nat) (img : List Byte) (hs : BlockPendsWithForm s) :
    BlockPendsWithForm (writeDone st page img s) := by
  cases st with
  | erase => exact hs
  | body => exact hs
  | mark => exact storeHandover_keeps hs

theorem writeFails_keeps (st : SaveStage) (hs : BlockPendsWithForm s) : BlockPendsWithForm (writeFails st s) :=
  storeHandover_keeps hs

/-- A load leaves the form and the pending block, whatever it installs (11 R204, 09 R188). -/
theorem loadEvent_keeps (missed : Option Nat) (hs : BlockPendsWithForm s) :
    BlockPendsWithForm (loadEvent missed s) := by
  unfold loadEvent
  split
  · next reload _ =>
    unfold loadEnds
    refine storeHandover_keeps (hs.of_view ?_)
    cases reload <;> cases loadFailure _ missed s.store.mem <;> rfl
  · exact hs

/-- Behind RESET there is no form and no block (01 R10, 09 R188). -/
theorem releaseReset_keeps (storesel : Bool) (hs : BlockPendsWithForm s) :
    BlockPendsWithForm (releaseReset storesel s) := by
  have hblocks : BlockPendsWithForm (resetBlocks storesel s) := blockPendsWithForm_closed rfl rfl
  unfold releaseReset
  dsimp only
  split
  · refine hblocks.of_view ?_
    split <;> split <;> simp
  · exact hs

theorem connectWaitExpires_keeps (hs : BlockPendsWithForm s) : BlockPendsWithForm (connectWaitExpires s) := by
  unfold connectWaitExpires
  split
  case h_4 => exact hs
  all_goals
    split
    · exact enterDown_keeps _ _ hs
    · exact hs

theorem holdoverExpires_keeps (hs : BlockPendsWithForm s) : BlockPendsWithForm (holdoverExpires s) := by
  unfold holdoverExpires
  split
  · exact enterDown_keeps _ _ hs
  · exact hs

theorem disconnectSpace_keeps (hs : BlockPendsWithForm s) : BlockPendsWithForm (disconnectSpace s) := by
  unfold disconnectSpace
  split
  · exact enterDown_keeps _ _ hs
  · exact hs

theorem markSeen_keeps (hs : BlockPendsWithForm s) : BlockPendsWithForm (markSeen s) := by
  unfold markSeen
  split
  · exact hs
  · split
    · exact receiveBreak_keeps hs
    · exact hs

theorem breakEnds_keeps (hs : BlockPendsWithForm s) : BlockPendsWithForm (breakEnds s) := by
  unfold breakEnds
  split
  · exact receiveBreak_keeps hs
  · exact hs

/-! ### Command frames (11) -/

theorem cmdPrintText_keeps (p : List Byte) (hs : BlockPendsWithForm s) :
    BlockPendsWithForm (cmdPrintText p s).1 := by
  have hbytes : ∀ n (u : State), (printBytes p n u).1.blockView = u.blockView := by
    induction p with
    | nil => exact fun n u => rfl
    | cons b bs ih =>
      intro n u
      unfold printBytes
      split <;> rename_i hoffer
      · exact (ih _ _).trans (offerCode_taken_view hoffer)
      · rfl
  exact hs.of_view (hbytes 0 s)

theorem cmdEndLine_keeps (p : List Byte) (hs : BlockPendsWithForm s) :
    BlockPendsWithForm (cmdEndLine p s).1 := by
  unfold cmdEndLine
  split
  · exact hs
  · split <;> rename_i hclose
    · exact hs.of_view (closeLine_view hclose)
    · exact hs

theorem cmdFeed_keeps (p : List Byte) (hs : BlockPendsWithForm s) : BlockPendsWithForm (cmdFeed p s).1 := by
  unfold cmdFeed
  split
  · split
    · exact hs
    · split
      · exact hs.of_view (appendEntries_view _ s)
      · exact hs
  · exact hs

theorem cmdPurge_keeps (p : List Byte) (hs : BlockPendsWithForm s) :
    BlockPendsWithForm (cmdPurge p s).1 := by
  unfold cmdPurge
  split
  · split
    · exact hs
    · exact serveWaitList_keeps (hs.of_view (purgeEntries_view _ s))
  · exact hs

theorem cmdPrintStop_keeps (p : List Byte) (hs : BlockPendsWithForm s) :
    BlockPendsWithForm (cmdPrintStop p s).1 := by
  unfold cmdPrintStop
  split
  · exact hs
  · exact hs.of_view (addCause_view _ s)

theorem cmdPrintGo_keeps (p : List Byte) (hs : BlockPendsWithForm s) :
    BlockPendsWithForm (cmdPrintGo p s).1 := by
  unfold cmdPrintGo
  split
  · exact hs
  · exact hs.of_view (removeCause_view _ s)

theorem cmdLoadCharacter_keeps (p : List Byte) (hs : BlockPendsWithForm s) :
    BlockPendsWithForm (cmdLoadCharacter p s).1 := by
  unfold cmdLoadCharacter
  split
  · exact hs
  · split
    · dsimp only
      split <;> split <;> exact hs
    · exact hs

theorem cmdLinkStart_keeps (r : Role) (p : List Byte) (hs : BlockPendsWithForm s) :
    BlockPendsWithForm (cmdLinkStart r p s).1 := by
  unfold cmdLinkStart
  split
  · exact hs
  · split
    · exact hs
    · split <;> exact hs

theorem cmdLinkDrop_keeps (p : List Byte) (hs : BlockPendsWithForm s) :
    BlockPendsWithForm (cmdLinkDrop p s).1 := by
  unfold cmdLinkDrop
  split
  · exact hs
  · split
    · exact hs
    · exact enterDown_keeps _ _ hs

theorem cmdSend_keeps (p : List Byte) (hs : BlockPendsWithForm s) : BlockPendsWithForm (cmdSend p s).1 := by
  unfold cmdSend
  split
  · exact hs
  · split
    · exact hs
    · exact hs.of_view (addData_view _ s)

theorem cmdSendBreak_keeps (p : List Byte) (hs : BlockPendsWithForm s) :
    BlockPendsWithForm (cmdSendBreak p s).1 := by
  unfold cmdSendBreak
  split
  · exact hs
  · split <;> exact hs

theorem cmdLoadKeymap_keeps (p : List Byte) (hs : BlockPendsWithForm s) :
    BlockPendsWithForm (cmdLoadKeymap p s).1 := by
  unfold cmdLoadKeymap
  split
  · exact hs
  · split
    · split
      · exact hs
      · split <;> exact hs
    · exact hs

/-- A segment touches the slots and the load buffer only (09 R166, R167). -/
theorem takeSegment_keeps (n : Nat) (held new : List Byte) (last : Bool) (hs : BlockPendsWithForm s) :
    BlockPendsWithForm (takeSegment n held new last s).1 := by
  unfold takeSegment
  dsimp only
  split
  · exact hs
  · split
    · unfold installImage
      dsimp only
      split
      · exact hs
      · split <;> exact hs
    · exact hs

theorem cmdLoadForm_keeps (p : List Byte) (hs : BlockPendsWithForm s) :
    BlockPendsWithForm (cmdLoadForm p s).1 := by
  unfold cmdLoadForm
  split
  · exact hs
  · split
    · split
      · exact hs
      · split
        · exact takeSegment_keeps _ _ _ _ hs
        · exact takeSegment_keeps _ _ _ _ hs
        · split
          · exact takeSegment_keeps _ _ _ _ hs
          · exact hs
        · split
          · exact takeSegment_keeps _ _ _ _ hs
          · exact hs
        · exact hs
    · exact hs

theorem cmdDeleteForm_keeps (p : List Byte) (hs : BlockPendsWithForm s) :
    BlockPendsWithForm (cmdDeleteForm p s).1 := by
  unfold cmdDeleteForm
  split
  · exact hs
  · split
    · split
      · exact hs
      · split
        · exact hs
        · split <;> exact hs
    · exact hs

theorem cmdOpenForm_keeps (p : List Byte) (hs : BlockPendsWithForm s) :
    BlockPendsWithForm (cmdOpenForm p s).1 := by
  unfold cmdOpenForm
  split
  · split
    · exact openForm_keeps _ _ hs
    · exact hs
  · exact hs

theorem cmdSetField_keeps (p : List Byte) (hs : BlockPendsWithForm s) :
    BlockPendsWithForm (cmdSetField p s).1 := by
  unfold cmdSetField
  split
  · exact hs.of_view (writeField_view _ _ _ s)
  · exact hs

theorem cmdCommitForm_keeps (p : List Byte) (hs : BlockPendsWithForm s) :
    BlockPendsWithForm (cmdCommitForm p s).1 := by
  unfold cmdCommitForm
  split
  · exact hs
  · exact commitForm_keeps _ hs

theorem cmdCancelForm_keeps (p : List Byte) (hs : BlockPendsWithForm s) :
    BlockPendsWithForm (cmdCancelForm p s).1 := by
  unfold cmdCancelForm
  split
  · exact hs
  · exact cancelForm_keeps _ hs

theorem cmdSaveStore_keeps (p : List Byte) (hs : BlockPendsWithForm s) :
    BlockPendsWithForm (cmdSaveStore p s).1 := by
  unfold cmdSaveStore
  split
  · exact hs
  · split
    · exact hs
    · split <;> exact hs

theorem cmdDormant_keeps (p : List Byte) (hs : BlockPendsWithForm s) :
    BlockPendsWithForm (cmdDormant p s).1 := by
  unfold cmdDormant
  split
  · exact hs
  · split <;> exact hs

theorem cmdStatus_keeps (p : List Byte) (hs : BlockPendsWithForm s) :
    BlockPendsWithForm (cmdStatus p s).1 := by
  unfold cmdStatus
  split <;> exact hs

theorem cmdGetOption_keeps (p : List Byte) (hs : BlockPendsWithForm s) :
    BlockPendsWithForm (cmdGetOption p s).1 := by
  unfold cmdGetOption
  split
  · split <;> exact hs
  · exact hs

theorem cmdGetField_keeps (p : List Byte) (hs : BlockPendsWithForm s) :
    BlockPendsWithForm (cmdGetField p s).1 := by
  unfold cmdGetField
  split
  · split
    · exact hs
    · split <;> exact hs
  · exact hs

/-- Every command of Table 11-2 keeps the block with its form. -/
theorem runListed_keeps (f : CmdFrame) (hs : BlockPendsWithForm s) :
    BlockPendsWithForm (runListed f s).1 := by
  unfold runListed
  split
  · exact cmdStatus_keeps _ hs
  · exact cmdSaveStore_keeps _ hs
  · exact cmdDormant_keeps _ hs
  · exact cmdSetOption_keeps _ hs
  · exact cmdGetOption_keeps _ hs
  · exact cmdPrintText_keeps _ hs
  · exact cmdEndLine_keeps _ hs
  · exact cmdFeed_keeps _ hs
  · exact cmdPurge_keeps _ hs
  · exact cmdPrintStop_keeps _ hs
  · exact cmdPrintGo_keeps _ hs
  · exact cmdLoadCharacter_keeps _ hs
  · exact cmdLinkStart_keeps _ _ hs
  · exact cmdLinkStart_keeps _ _ hs
  · exact cmdLinkDrop_keeps _ hs
  · exact cmdSend_keeps _ hs
  · exact cmdSendBreak_keeps _ hs
  · exact cmdLoadKeymap_keeps _ hs
  · exact cmdLoadForm_keeps _ hs
  · exact cmdDeleteForm_keeps _ hs
  · exact cmdOpenForm_keeps _ hs
  · exact cmdSetField_keeps _ hs
  · exact cmdGetField_keeps _ hs
  · exact cmdCommitForm_keeps _ hs
  · exact cmdCancelForm_keeps _ hs
  · exact hs

theorem runCommand_keeps (f : CmdFrame) (hs : BlockPendsWithForm s) :
    BlockPendsWithForm (runCommand f s).1 := by
  unfold runCommand
  split
  · exact hs
  · split
    · exact hs
    · exact runListed_keeps f hs

theorem runFrames_keeps (fuel : Nat) (hs : BlockPendsWithForm s) : BlockPendsWithForm (runFrames fuel s) := by
  induction fuel generalizing s with
  | zero => exact hs
  | succ fuel ih =>
    unfold runFrames
    split
    · exact hs
    · split
      · next f rest _ _ =>
        exact ih ((runCommand_keeps f (s := s.onPort fun p => { p with frames := rest })
          (hs.of_view rfl)).of_view rfl)
      · exact hs

theorem runWaiting_keeps (hs : BlockPendsWithForm s) : BlockPendsWithForm (runWaiting s) :=
  runFrames_keeps _ hs

theorem writeByte_keeps (b : Byte) (hs : BlockPendsWithForm s) : BlockPendsWithForm (writeByte b s) := by
  unfold writeByte
  split
  · exact hs
  · exact runWaiting_keeps (hs.of_view rfl)

theorem clearPort_keeps (hs : BlockPendsWithForm s) : BlockPendsWithForm (clearPort s) := by
  unfold clearPort
  split <;> exact hs

theorem writeFrame_keeps (code : Byte) (p : List Byte) (hs : BlockPendsWithForm s) :
    BlockPendsWithForm (writeFrame code p s) := by
  unfold writeFrame
  induction frameBytes code p generalizing s with
  | nil => exact hs
  | cons b bs ih => exact ih (writeByte_keeps b hs)

/-! ### Events and the step -/

theorem event_keeps {f : State → State} {t : State} (hs : BlockPendsWithForm s)
    (hf : BlockPendsWithForm (f s)) (h : event f s = .next t) : BlockPendsWithForm t := by
  unfold event at h
  split at h <;> cases h
  · exact hs
  · exact hf

theorem deliverFrame_keeps {code : Byte} {p : List Byte} {t : State} (hs : BlockPendsWithForm s)
    (h : deliverFrame code p s = .next t) : BlockPendsWithForm t := by
  unfold deliverFrame at h
  split at h
  · cases h
  · exact event_keeps hs (writeFrame_keeps code p hs) h

theorem saveEvent_keeps {f : SaveStage → Nat → List Byte → State → State} {t : State}
    (hs : BlockPendsWithForm s) (hf : ∀ st page img, BlockPendsWithForm (f st page img s))
    (h : saveEvent f s = .next t) : BlockPendsWithForm t := by
  unfold saveEvent at h
  split at h
  · split at h
    · cases h
    · exact event_keeps hs (hf _ _ _) h
  · cases h; exact hs

theorem sensorReport_keeps {f : State → State} {pin : Pins → Pins} {t : State}
    (hf : ∀ u, (f u).blockView = u.blockView) (hs : BlockPendsWithForm s)
    (h : (.next (sensorReport pin f s) : Host.Outcome State Fault Refusal) = .next t) :
    BlockPendsWithForm t := by
  cases h
  exact hs.of_view (sensorReport_view hf pin s)

/-- A command that answers a next state keeps the block with its form. -/
theorem exec_keeps_block {t : State} (c : Instr) (hs : BlockPendsWithForm s) (h : exec c s = .next t) :
    BlockPendsWithForm t := by
  cases c
  case commandByteWrite b => exact event_keeps hs (writeByte_keeps b hs) h
  case portClear => exact event_keeps hs (clearPort_keeps hs) h
  case outputFifoRead => exact event_keeps (f := readOutput) hs (runWaiting_keeps (hs.of_view rfl)) h
  case statusByteRead => exact event_keeps (f := readStatus) hs (hs.of_view rfl) h
  case resetAssert => cases h; exact hs.of_view (assertReset_view s)
  case resetRelease storesel => cases h; exact releaseReset_keeps storesel hs
  case storeLoadEnd missed => exact event_keeps hs (loadEvent_keeps missed hs) h
  case saveWriteDone => exact saveEvent_keeps hs (fun st page img => writeDone_keeps st page img hs) h
  case savePollTimeout => exact saveEvent_keeps hs (fun st _ _ => writeFails_keeps st hs) h
  case saveWriteNoAcknowledge => exact saveEvent_keeps hs (fun st _ _ => writeFails_keeps st hs) h
  case keyWakeClosure closed atEntry => exact event_keeps hs (hs.of_view (wakeByKey_view closed atEntry s)) h
  case wakingEnd => exact event_keeps hs (hs.of_view (endWaking_view s)) h
  case paperAbsent => exact sensorReport_keeps paperGone_view hs h
  case paperPresent => exact sensorReport_keeps (f := paperBack) (fun _ => rfl) hs h
  case paperCountExpiry => exact event_keeps hs (hs.of_view (paperCounted_view s)) h
  case leverOpen => exact sensorReport_keeps leverUpReport_view hs h
  case leverClosed => exact sensorReport_keeps (f := leverDownReport) (fun _ => rfl) hs h
  case leverCountExpiry => exact event_keeps hs (hs.of_view (leverCounted_view s)) h
  case hotMeasurement temp => exact event_keeps hs (hs.of_view (hotMeasured_view temp s)) h
  case lowSupplyMeasurement v => exact event_keeps hs (hs.of_view (supplyMeasured_view v s)) h
  case temperatureMeasurement temp => exact event_keeps hs (hs.of_view (doRowTemperature_view temp s)) h
  case headLoad => exact event_keeps (f := fun s => s.onPe doHeadLoad) hs (hs.of_view rfl) h
  case strobeEnd => exact event_keeps (f := fun s => s.onPe doStrobeEnd) hs (hs.of_view rfl) h
  case motorStep v => exact event_keeps hs (motorSteps_keeps v hs) h
  case waitListService => exact event_keeps hs (serveWaitList_keeps hs) h
  case pendingBlockAppend =>
    refine event_keeps hs ?_ h
    split
    · exact serveWaitList_keeps hs
    · exact hs
  case farHoldTimeout =>
    refine event_keeps hs (hs.of_view ?_) h
    split
    · exact commitRequest_view _ s
    · rfl
  case scanRequest => exact event_keeps hs (hs.of_view (askScan_view s)) h
  case keyRowScan closed => exact event_keeps hs (hs.of_view (rowScan_view closed s)) h
  case typematicTimer => exact event_keeps hs (hs.of_view (typematicRunsOut_view s)) h
  case keyEventExamine => exact event_keeps hs (examine_keeps hs) h
  case carrierPresent level => exact event_keeps hs (hs.of_view (carrierPresent_view level s)) h
  case carrierAbsent level => exact event_keeps hs (hs.of_view (carrierAbsent_view level s)) h
  case connectWaitExpiry => exact event_keeps hs (connectWaitExpires_keeps hs) h
  case qualifyExpiry => exact event_keeps hs (hs.of_view (qualifyExpires_view s)) h
  case holdoverExpiry => exact event_keeps hs (holdoverExpires_keeps hs) h
  case characterReceived data parityBit stopMark level =>
    exact event_keeps hs (hs.of_view (characterCompletes_view data parityBit stopMark level s)) h
  case startBit midSpace => exact event_keeps hs (hs.of_view (spaceBegins_view midSpace s)) h
  case markDecision => exact event_keeps hs (markSeen_keeps hs) h
  case breakPending => exact event_keeps hs (hs.of_view (breakBecomesPending_view s)) h
  case receivedBreak => exact event_keeps hs (breakEnds_keeps hs) h
  case disconnectSpace => exact event_keeps hs (disconnectSpace_keeps hs) h
  case breakSendEnd => exact event_keeps hs (hs.of_view (breakSendEnds_view s)) h
  case transmitCharacterEnd => exact event_keeps hs (hs.of_view (transmitEnds_view s)) h
  case directiveByteTake => exact event_keeps hs (takeDirectiveByte_keeps hs) h
  case directiveTimeout => exact event_keeps hs (hs.of_view (directiveTimedOut_view s)) h
  case replyAdd => exact event_keeps hs (hs.of_view (addReply_view s)) h
  case reportByteAdd => exact event_keeps hs (feedReport_keeps hs) h
  -- The rows that remain are the command frames.
  all_goals exact deliverFrame_keeps hs h

end Keeps

/-- Settles O60: the tick leaves the view, and every command keeps the block with its form. -/
theorem stepKeepsBlockWithForm : Obligations.StepKeepsBlockWithForm := by
  intro s t hs hstep
  cases hqueue : s.pending with
  | nil =>
    rw [step_empty hqueue] at hstep
    cases hstep
    refine hs.of_view ?_
    unfold tick
    split <;> rfl
  | cons c rest =>
    rw [step_front hqueue] at hstep
    exact exec_keeps_block (s := { s with pending := rest }) c hs hstep

end Sys2Proof.Machine

/-! PROOFS: the glyph tables, the dots of a cell, and the printed row (O25). -/

namespace Sys2Proof.Machine

/-! ### The glyph tables and LOAD CHARACTER (02 R36) -/

/-- A load sets one place of one font's table. -/
theorem CharGen.table_load (g : CharGen) (f : Font) (code : Byte) (bm : List Byte) (f' : Font) :
    (g.load f code bm).table f'
      = if f' = f then (g.table f').set (code.toNat - 0x80) (some bm) else g.table f' := by
  cases f <;> cases f' <;> rfl

/-- A glyph loaded in one font is read back under its code, and the other glyphs of both fonts stay. -/
theorem CharGen.user_load {g : CharGen} {f : Font} {code : Byte} (bm : List Byte)
    (hsize : (g.table f).length = 32) (hlo : 0x80 ≤ code.toNat) (hhi : code.toNat ≤ 0x9F)
    (f' : Font) (c : Byte) (hc : 0x80 ≤ c.toNat) :
    (g.load f code bm).user f' c = if c = code ∧ f' = f then some bm else g.user f' c := by
  rw [CharGen.user, CharGen.user, CharGen.table_load]
  by_cases hf : f' = f
  · subst hf
    by_cases hcode : c = code
    · subst hcode
      have hplace : c.toNat - 0x80 < (g.table f').length := by omega
      simp [List.getD_eq_getElem?_getD, hplace]
    · have hplace : code.toNat - 0x80 ≠ c.toNat - 0x80 := by
        have := mt BitVec.eq_of_toNat_eq hcode
        omega
      simp [List.getD_eq_getElem?_getD, List.getElem?_set_ne hplace, hcode]
  · rw [if_neg hf, if_neg fun h => hf h.2]

theorem storeBusy_eq_false_iff (s : State) : storeBusy s = false ↔ s.store.state = .idle := by
  unfold storeBusy
  cases s.store.state <;> simp [StoreState.isLoading, StoreState.isSaving]

theorem cmdLoadCharacter_busy {s : State} (p : List Byte) (hstore : s.store.state ≠ .idle) :
    cmdLoadCharacter p s = (s, .bare .busy) := by
  have hbusy : storeBusy s = true := by
    rw [← Bool.not_eq_false, storeBusy_eq_false_iff]
    exact hstore
  unfold cmdLoadCharacter
  exact if_pos hbusy

/-- A payload that names no user glyph, or whose bitmap has not its font's length. -/
theorem cmdLoadCharacter_range {s : State} {p : List Byte} (hstore : s.store.state = .idle)
    (h : p.length < 2 ∨ (p.getD 0 0).toNat < 0x80 ∨ 0x9F < (p.getD 0 0).toNat ∨ 1 < (p.getD 1 0).toNat
      ∨ (p.getD 1 0 = 0 ∧ p.length ≠ 38) ∨ (p.getD 1 0 = 1 ∧ p.length ≠ 18)) :
    cmdLoadCharacter p s = (s, .bare .range) := by
  unfold cmdLoadCharacter
  rw [if_neg (by simp [(storeBusy_eq_false_iff s).2 hstore])]
  split
  · next code font bm =>
    refine if_neg ?_
    rintro ⟨hlo, hhi, hfont, hlen⟩
    simp only [List.getD_cons_zero, List.getD_cons_succ, List.length_cons] at h
    rcases h with h | h | h | h | ⟨rfl, h⟩ | ⟨rfl, h⟩
    · omega
    · omega
    · omega
    · omega
    · have : bm.length = 36 := hlen
      omega
    · have : bm.length = 16 := hlen
      omega
  · rfl

/-- A payload that names a user glyph, with a bitmap of its font's length. -/
theorem cmdLoadCharacter_load {s : State} {code font : Byte} {bm : List Byte}
    (hstore : s.store.state = .idle) (hlo : 0x80 ≤ code.toNat) (hhi : code.toNat ≤ 0x9F)
    (hfont : font = 0 ∧ bm.length = 36 ∨ font = 1 ∧ bm.length = 16) :
    cmdLoadCharacter (code :: font :: bm) s
      = ({ s with cg := s.cg.load (if font = 0 then .std else .cond) code bm }, .bare .ok) := by
  rw [cmdLoadCharacter, if_neg (by simp [(storeBusy_eq_false_iff s).2 hstore])]
  refine if_pos ⟨hlo, hhi, ?_⟩
  obtain ⟨rfl, hlen⟩ | ⟨rfl, hlen⟩ := hfont
  · exact ⟨by decide, hlen⟩
  · exact ⟨by decide, hlen⟩

/-- A LOAD CHARACTER frame at a ready port: BUSY by the port while the store is LOADING, else what its own
rule answers (11 R201). -/
theorem exec_loadCharacter {s u : State} {p : List Byte} {r : Resp} (hs : PortReady s) (hl : p.length ≤ 63)
    (hrun : cmdLoadCharacter p s = (u, r)) (hu : u.raised = []) :
    exec (.loadCharacter p) s = .next (u.answered r.bytes) := by
  refine (deliverFrame_ready (code := 0x16) hs hl).trans ?_
  have hlisted : listedCode 0x16#8 = true := by decide
  have hcommand : runCommand ⟨0x16, p⟩ s = (u, r) := by
    cases hload : s.store.state.isLoading
    · rw [runCommand_ready hlisted hload]
      exact hrun
    · have hbusy : cmdLoadCharacter p s = (s, .bare .busy) :=
        cmdLoadCharacter_busy p fun h => by simp [h, StoreState.isLoading] at hload
      rw [← hrun, hbusy]
      simp [runCommand, hlisted, hload]
  rw [hcommand, respond_quiet hu]

/-! ### The dots of a cell (02 R26 to R31) -/

section Glyph

variable {g : CharGen} {f : Font} {c : Cell} {r j : Nat}

/-- An error cell, a code of no glyph and a user glyph not loaded show the substitute (02 R28). -/
theorem glyphDot_substitute (h : c.error = true ∨ c.code.toNat < 0x20 ∨ c.code.toNat = 0x7F
      ∨ 0xA0 ≤ c.code.toNat
      ∨ (0x80 ≤ c.code.toNat ∧ c.code.toNat ≤ 0x9F ∧ g.user f c.code = none)) :
    glyphDot g f c r j = substituteDot r j := by
  unfold glyphDot
  split
  · rfl
  next herror =>
  split
  · next hbuiltin =>
    obtain ⟨hlo, hhi⟩ := hbuiltin
    rcases h with h | h | h | h | ⟨h, -⟩
    · exact absurd h herror
    all_goals omega
  split
  · rcases h with h | h | h | h | ⟨-, -, h⟩
    · exact absurd h herror
    · omega
    · omega
    · omega
    · rw [h]
  · rfl

/-- A loaded user glyph shows its bitmap (02 R29). -/
theorem glyphDot_user {bm : List Byte} (herror : c.error = false) (hlo : 0x80 ≤ c.code.toNat)
    (hhi : c.code.toNat ≤ 0x9F) (huser : g.user f c.code = some bm) :
    glyphDot g f c r j = bitmapDot f bm r j := by
  rw [glyphDot, if_neg (by simp [herror]), if_neg (by omega), if_pos ⟨hlo, hhi⟩, huser]

theorem glyphDot_builtin (herror : c.error = false) (hlo : 0x20 ≤ c.code.toNat)
    (hhi : c.code.toNat ≤ 0x7E) : glyphDot g f c r j = builtinDot f c.code r j := by
  rw [glyphDot, if_neg (by simp [herror]), if_pos ⟨hlo, hhi⟩]

/-- 20h, the last column and the last row of a built-in glyph are white (02 R27). -/
theorem builtinDot_white {code : Byte} (h : code = 0x20 ∨ j = f.cw - 1 ∨ r = f.h - 1) :
    builtinDot f code r j = false := by
  refine if_pos ?_
  have hcw : 0 < f.cw := by cases f <;> decide
  have hh : 0 < f.h := by cases f <;> decide
  rcases h with h | h | h
  · exact .inl h
  · exact .inr (.inl (by omega))
  · exact .inr (.inr (by omega))

/-- A dot of a cell's row before doubling: black where the cell is underlined, else the glyph's
(02 R31). -/
def cellDot (g : CharGen) (f : Font) (c : Cell) (q j : Nat) : Bool :=
  (c.underline && q == f.underlineRow) || glyphDot g f c q j

theorem cellRow_single (h : c.double = false) :
    cellRow g f r c = (List.range f.cw).map (cellDot g f c r) := by
  simp only [cellRow, h, Bool.false_eq_true, if_false, cellDot, List.map_eq_flatMap]

theorem cellRow_double (h : c.double = true) :
    cellRow g f r c = (List.range f.cw).flatMap fun j => [cellDot g f c r j, cellDot g f c r j] := by
  simp only [cellRow, h, if_true, cellDot]

/-- Each element written twice: the `j`-th stands at places `2 * j` and `2 * j + 1`. -/
theorem getElem?_flatMap_twice {α β : Type} (d : α → β) (l : List α) (j : Nat) :
    (l.flatMap fun a => [d a, d a])[2 * j]? = l[j]?.map d
      ∧ (l.flatMap fun a => [d a, d a])[2 * j + 1]? = l[j]?.map d := by
  induction l generalizing j with
  | nil => simp
  | cons a l ih =>
    cases j with
    | zero => simp
    | succ j => simpa [Nat.mul_add] using ih j

theorem length_flatMap_twice {α β : Type} (d : α → β) (l : List α) :
    (l.flatMap fun a => [d a, d a]).length = 2 * l.length := by
  induction l with
  | nil => rfl
  | cons a l ih =>
    rw [List.flatMap_cons, List.length_append, ih, List.length_cons, List.length_cons, List.length_cons,
      List.length_nil]
    omega

theorem cellRow_length : (cellRow g f r c).length = if c.double then 2 * f.cw else f.cw := by
  cases h : c.double
  · rw [cellRow_single h, List.length_map, List.length_range]
    rfl
  · rw [cellRow_double h, length_flatMap_twice, List.length_range]
    rfl

theorem cellRow_get_single (h : c.double = false) (hj : j < f.cw) :
    (cellRow g f r c)[j]? = some (cellDot g f c r j) := by
  simp [cellRow_single h, hj]

theorem cellRow_get_double (h : c.double = true) (hj : j < f.cw) :
    (cellRow g f r c)[2 * j]? = some (cellDot g f c r j)
      ∧ (cellRow g f r c)[2 * j + 1]? = some (cellDot g f c r j) := by
  rw [cellRow_double h]
  simpa [hj] using getElem?_flatMap_twice (cellDot g f c r) (List.range f.cw) j

end Glyph

/-! ### The printed row (02 R32, R33) -/

@[simp] theorem composeRow_length (g : CharGen) (f : Font) (cells : List Cell) (q : Nat) :
    (composeRow g f cells q).length = 384 := by
  simp only [composeRow, List.length_take, List.length_append, List.length_replicate]
  omega

/-- The cells' dots in order, white behind the last (02 R32). -/
theorem composeRow_getD (g : CharGen) (f : Font) (cells : List Cell) (q : Nat) {i : Nat} (hi : i < 384) :
    (composeRow g f cells q).getD i false = (cells.flatMap (cellRow g f q)).getD i false := by
  simp only [composeRow, List.getD_eq_getElem?_getD, List.getElem?_take_of_lt hi, List.getElem?_append]
  split
  · rfl
  next hend =>
    rw [List.getElem?_eq_none (Nat.not_lt.1 hend), List.getElem?_replicate]
    split <;> rfl

/-- The number that a list of dots is read as has the dots as its bits. -/
theorem testBit_foldr_dots (bs : List Bool) (i : Nat) :
    (bs.foldr (fun (b : Bool) n => 2 * n + (if b then 1 else 0)) 0).testBit i = bs.getD i false := by
  induction bs generalizing i with
  | nil => simp
  | cons b bs ih =>
    rw [List.foldr_cons]
    cases i with
    | zero => cases b <;> simp [Nat.testBit_zero]
    | succ i =>
      rw [Nat.testBit_succ, List.getD_cons_succ, ← ih i]
      congr 1
      cases b
      · exact Nat.mul_div_cancel_left _ Nat.two_pos
      · exact Nat.mul_add_div Nat.two_pos _ 1

theorem dotsOfBools_getLsbD (bs : List Bool) {i : Nat} (hi : i < 384) :
    (dotsOfBools bs).getLsbD i = bs.getD i false := by
  rw [dotsOfBools, BitVec.getLsbD_ofNat, testBit_foldr_dots, decide_eq_true hi, Bool.true_and]

/-- The head entry's printed row `q` is its row `q` at dots 0 to 383, or, rotated, its row `h - 1 - q` at
dots 383 to 0 (02 R32, R33). -/
theorem printedRow_getLsbD (g : CharGen) (f : Font) (cells : List Cell) (rot : Bool) (q : Nat) {i : Nat}
    (hi : i < 384) :
    (printedRow g f cells rot q).getLsbD (if rot then 383 - i else i)
      = (cells.flatMap (cellRow g f (if rot then f.h - 1 - q else q))).getD i false := by
  cases rot
  · exact (dotsOfBools_getLsbD _ hi).trans (composeRow_getD g f cells q hi)
  · have hturned : 383 - i < (composeRow g f cells (f.h - 1 - q)).length := by
      rw [composeRow_length]
      omega
    have hback : (composeRow g f cells (f.h - 1 - q)).length - 1 - (383 - i) = i := by
      rw [composeRow_length]
      omega
    refine (dotsOfBools_getLsbD _ (show 383 - i < 384 by omega)).trans ?_
    rw [List.getD_eq_getElem?_getD, List.getElem?_reverse hturned, hback, ← List.getD_eq_getElem?_getD]
    exact composeRow_getD g f cells (f.h - 1 - q) hi

/-- The row composed for a TEXT head entry is its printed row at the entry's row counter (03 R47). -/
theorem composeHead_text {s : State} {e : Entry} {rest : List Entry} {f : Font} {cells : List Cell}
    {rot : Bool} {sp : Nat} (hq : s.pq.entries = e :: rest) (hbody : e.body = .text f cells rot sp) :
    composeHead s = printedRow s.cg f cells rot s.pe.entryRow := by
  obtain ⟨source, body, lastOfForm, cutMark⟩ := e
  obtain rfl : body = .text f cells rot sp := hbody
  rw [composeHead, hq]

/-- Settles O25: the command by its three answers, the glyph's dots by the classes of Table 2-2, and the
printed row by its place in head order. -/
theorem loadCharacterSetsOneGlyph : Obligations.LoadCharacterSetsOneGlyph := by
  refine ⟨fun s p hs hl => ⟨fun hstore => ?_, fun hstore => ⟨fun hrange => ?_, ?_⟩⟩,
    fun g f c r j => ⟨glyphDot_substitute, fun bm => glyphDot_user, fun herror hlo hhi hwhite => ?_,
      cellRow_length, ?_⟩, fun s e rest f cells rot sp i hq hbody _ hi => ?_⟩
  · exact exec_loadCharacter hs hl (cmdLoadCharacter_busy p hstore) hs.1.2
  · exact exec_loadCharacter hs hl (cmdLoadCharacter_range hstore hrange) hs.1.2
  · rintro code font bm rfl hlo hhi hfont hstd hcond
    have hsize : (s.cg.table (if font = 0 then .std else .cond)).length = 32 := by
      split
      · exact hstd
      · exact hcond
    exact ⟨_, exec_loadCharacter hs hl (cmdLoadCharacter_load hstore hlo hhi hfont) hs.1.2,
      fun f c hc _ => CharGen.user_load bm hsize hlo hhi f c hc⟩
  · rw [glyphDot_builtin herror hlo hhi, builtinDot_white hwhite]
  · intro hj d hd
    have hdot : d = cellDot g f c r j := by
      rw [hd, Bool.or_comm]
      cases f <;> rfl
    rw [hdot]
    exact ⟨fun h => cellRow_get_single h hj, fun h => cellRow_get_double h hj⟩
  · rw [composeHead_text hq hbody]
    exact printedRow_getLsbD s.cg f cells rot s.pe.entryRow hi

end Sys2Proof.Machine

/-! PROOFS: the transmitter's take, and SEND (O40). -/

namespace Sys2Proof.Machine

/-! ### The transmitter (05 R109) -/

section Transmitter

variable {s : State}

/-- Off ONLINE, behind a character in flight, under a break send, or with nothing it may take, the
transmitter leaves TXQ. -/
theorem txPump_stays (h : s.link.state ≠ .online ∨ s.framer.inFlight ≠ none ∨ s.link.breakSend ≠ .none
    ∨ (s.framer.flow = [] ∧ (s.framer.farPaused = true ∨ s.framer.data = []))) : txPump s = s := by
  unfold txPump
  split
  · next hfree =>
    obtain ⟨honline, hidle, hbreak⟩ := hfree
    obtain ⟨hflow, hdata⟩ : s.framer.flow = [] ∧ (s.framer.farPaused = true ∨ s.framer.data = []) := by
      simpa [honline, hidle, hbreak] using h
    rw [hflow]
    rcases hdata with hpaused | hempty
    · cases s.framer.data <;> simp [hpaused]
    · rw [hempty]
  · rfl

/-- A flow code is taken first. -/
theorem txPump_flow {b : Byte} {fl : List Byte} (honline : s.link.state = .online)
    (hidle : s.framer.inFlight = none) (hbreak : s.link.breakSend = .none) (hflow : s.framer.flow = b :: fl) :
    txPump s = { s with framer := { s.framer with
      flow := fl, inFlight := some ⟨b, lineBits (currentFraming s) b⟩ } } := by
  simp [txPump, honline, hidle, hbreak, hflow, State.onFramer, putInFlight]

/-- Without a flow code and not far-paused the first data byte is taken. -/
theorem txPump_data {b : Byte} {ds : List Byte} (honline : s.link.state = .online)
    (hidle : s.framer.inFlight = none) (hbreak : s.link.breakSend = .none) (hflow : s.framer.flow = [])
    (hpaused : s.framer.farPaused = false) (hdata : s.framer.data = b :: ds) :
    txPump s = { s with framer := { s.framer with
      data := ds, inFlight := some ⟨b, lineBits (currentFraming s) b⟩ } } := by
  simp [txPump, honline, hidle, hbreak, hflow, hpaused, hdata, State.onFramer, putInFlight]

/-- The transmitter's take leaves the receiving side of the framer. -/
theorem txPump_framer (s : State) : (txPump s).framer = { s.framer with
    flow := (txPump s).framer.flow, data := (txPump s).framer.data
    inFlight := (txPump s).framer.inFlight } := by
  unfold txPump
  split
  · split
    · rfl
    · split <;> rfl
    · rfl
  · rfl

end Transmitter

/-! ### SEND (O40) -/

/-- While the store is LOADING every listed command but STATUS answers BUSY (11 R201 (2)). -/
theorem deliverFrame_loading {code : Byte} {p : List Byte} {s : State} (hs : PortReady s) (hl : p.length ≤ 63)
    (hc : listedCode code = true) (hstatus : code ≠ 0x01#8) (hload : s.store.state.isLoading = true) :
    deliverFrame code p s = .next (s.answered [0x04, 0x00]) := by
  have hrun : runCommand ⟨code, p⟩ s = (s, .bare .busy) := by simp [runCommand, hc, hstatus, hload]
  rw [deliverFrame_ready hs hl, hrun, respond_quiet hs.1.2]
  rfl

section Send

variable {s u : State} {p : List Byte} {r : Resp}

/-- SEND that the store does not keep from its own rule, with what the rule gives. -/
theorem exec_send (hs : CommandReady s) (hl : p.length ≤ 63) (hrun : cmdSend p s = (u, r))
    (hu : u.raised = []) : exec (.send p) s = .next (u.answered r.bytes) :=
  deliverFrame_quiet (code := 0x23) hs hl (by decide) hrun hu

theorem cmdSend_state (h : s.link.state ≠ .online) : cmdSend p s = (s, .bare .state) :=
  if_pos h

/-- A reply that waits, or a data count above 158 with the payload: FULL (R112 (3)). -/
theorem cmdSend_full (honline : s.link.state = .online)
    (h : (∃ r, s.dp = .replyWait r) ∨ 158 < s.framer.data.length + p.length) :
    cmdSend p s = (s, .bare .full) := by
  have hfull : (replyWaits s || !dataFits p.length s.framer) = true := by
    rcases h with ⟨reply, hreply⟩ | hover
    · simp [replyWaits, hreply]
    · have hno : dataFits p.length s.framer = false := decide_eq_false (Nat.not_le.2 hover)
      simp [hno]
  simp [cmdSend, honline, hfull]

/-- A payload that fits behind the data bytes is added (R112 (4)). -/
theorem cmdSend_added (honline : s.link.state = .online) (hreply : ∀ r, s.dp ≠ .replyWait r)
    (hfit : s.framer.data.length + p.length ≤ 158) : cmdSend p s = (addData p s, .bare .ok) := by
  have hnone : replyWaits s = false := by
    unfold replyWaits
    split
    · next hdp => exact absurd hdp (hreply _)
    · rfl
  have hroom : dataFits p.length s.framer = true := decide_eq_true hfit
  simp [cmdSend, honline, hnone, hroom]

theorem addData_raised (p : List Byte) (s : State) : (addData p s).raised = s.raised := by
  rw [addData_only p s]

end Send

/-- Settles O40, by the tests of `cmdSend` and what the transmitter takes behind the added bytes. -/
theorem sendAddsItsBytesWhole : Obligations.SendAddsItsBytesWhole := by
  intro s p hs hl
  refine ⟨fun hload => deliverFrame_loading hs hl (by decide) (by decide) hload,
    fun hidle => ⟨fun hstate => exec_send ⟨hs, hidle⟩ hl (cmdSend_state hstate) hs.1.2,
      fun honline => ⟨fun hfull => exec_send ⟨hs, hidle⟩ hl (cmdSend_full honline hfull) hs.1.2, ?_⟩⟩⟩
  intro hreply hfit sent bits hsent hbits
  have hexec : exec (.send p) s = .next ((addData p s).answered [0x00, 0x00]) :=
    exec_send ⟨hs, hidle⟩ hl (cmdSend_added honline hreply hfit) ((addData_raised p s).trans hs.1.2)
  have hsends {fr : Framer} (h : addData p s = { s with framer := fr }) :
      exec (.send p) s = .next (sent fr) := by
    rw [hexec, h, hsent]
  subst hbits
  refine ⟨fun hstays => hsends (txPump_stays ?_), fun hfree hbreak => ⟨fun b fl hflow => ?_,
    fun b ds hflow hpaused hdata => ?_⟩⟩
  · rcases hstays with hflight | hbreak | hnothing
    · exact .inr (.inl hflight)
    · exact .inr (.inr (.inl hbreak))
    · exact .inr (.inr (.inr hnothing))
  · exact hsends (txPump_flow honline hfree hbreak hflow)
  · exact hsends (txPump_data honline hfree hbreak hflow hpaused hdata)

end Sys2Proof.Machine

/-! PROOFS: a received character (O45). -/

namespace Sys2Proof.Machine

/-! ### The gain at a character's end (04 R84, R85) -/

section Gain

variable {s : State}

/-- The end of a character touches the gain and ends a pending gain change, and that is all. -/
theorem gainAtCharacter_eq (s : State) : gainAtCharacter s = { s with
    link := { s.link with gain := (gainAtCharacter s).link.gain, gainPending := false } } := by
  unfold gainAtCharacter
  split
  · rfl
  · next hpending =>
    rw [← Bool.eq_false_iff.2 hpending]
    split
    · split <;> rfl
    · rfl

/-- A pending gain change is applied (04 R85). -/
theorem gainAtCharacter_pending (h : s.link.gainPending = true) :
    (gainAtCharacter s).link.gain
      = if s.opt 10 = 1 then floor5 (clampInt 0 420 (s.opt 11)) else s.link.gain := by
  simp only [gainAtCharacter, h, if_true, applyGain, State.onLink_link]

/-- Without one the gain steps in automatic mode only (04 R84). -/
theorem gainAtCharacter_step {lv : Int} (h : s.link.gainPending = false) (hlevel : s.link.level = some lv) :
    (gainAtCharacter s).link.gain = if s.opt 10 ≠ 0 then s.link.gain else gainStep s.link.gain lv := by
  by_cases hmode : s.opt 10 = 0 <;> simp [gainAtCharacter, h, hlevel, hmode]

end Gain

/-! ### Flow codes and the pause test (05 R104, R106) -/

section Flow

variable {s : State}

/-- The flow codes waiting with one placed behind them; of two waiting the older goes first (R106). -/
def flowWith (b : Byte) (flow : List Byte) : List Byte :=
  (if 2 ≤ flow.length then flow.drop (flow.length - 1) else flow) ++ [b]

theorem placeFlow_eq (b : Byte) (s : State) :
    placeFlow b s = txPump (s.onFramer fun fr => { fr with flow := flowWith b fr.flow }) := rfl

/-- The condition of the pause test (R104). -/
def Pauses (s : State) : Prop :=
  s.opt 6 = 1 ∧ s.framer.paused = false ∧ 48 ≤ s.framer.rxf.length
    ∧ (s.link.state = .online ∨ s.link.state = .fade)

theorem pauseTest_stays (h : ¬Pauses s) : pauseTest s = s :=
  if_neg h

theorem pauseTest_pauses (h : Pauses s) :
    pauseTest s = txPump (s.onFramer fun fr =>
      { fr with paused := true, flow := flowWith (byteOf (s.opt 7).toNat) fr.flow }) :=
  if_pos h

/-- The pause code waits where the transmitter may not take. -/
theorem pauseTest_waits (h : Pauses s)
    (htx : s.link.state ≠ .online ∨ s.framer.inFlight ≠ none ∨ s.link.breakSend ≠ .none) :
    pauseTest s = { s with framer := { s.framer with
      paused := true, flow := flowWith (byteOf (s.opt 7).toNat) s.framer.flow } } :=
  (pauseTest_pauses h).trans (txPump_stays (htx.imp_right fun h => h.imp_right .inl))

/-- Behind the pause code the transmitter takes the first flow code. -/
theorem pauseTest_takes {head : Byte} {fl : List Byte} (h : Pauses s) (honline : s.link.state = .online)
    (hidle : s.framer.inFlight = none) (hbreak : s.link.breakSend = .none)
    (hflow : flowWith (byteOf (s.opt 7).toNat) s.framer.flow = head :: fl) :
    pauseTest s = { s with framer := { s.framer with
      paused := true, flow := fl, inFlight := some ⟨head, lineBits (currentFraming s) head⟩ } } :=
  (pauseTest_pauses h).trans (txPump_flow honline hidle hbreak hflow)

/-- The pause test leaves RXF and the far-paused state. -/
theorem pauseTest_framer (s : State) : (pauseTest s).framer.rxf = s.framer.rxf
    ∧ (pauseTest s).framer.farPaused = s.framer.farPaused := by
  by_cases h : Pauses s
  · rw [pauseTest_pauses h, txPump_framer]
    exact ⟨rfl, rfl⟩
  · rw [pauseTest_stays h]
    exact ⟨rfl, rfl⟩

end Flow

/-! ### A completed character (05 R100) -/

section Take

variable {s : State} {code : Byte} {err : ErrKind}

/-- The state with the character's entry in RXF, and an error counted up to 99 (R100 (2), 04 R95). -/
def rxfJoined (code : Byte) (err : ErrKind) (s : State) : State := { s with
  framer := { s.framer with rxf := s.framer.rxf ++ [⟨code, err⟩] }
  link := { s.link with errCount :=
    if err = .none then s.link.errCount
    else if s.link.errCount < 99 then s.link.errCount + 1 else s.link.errCount } }

theorem takeCharacter_far (hfar : isFarPauseCode s code err = true) :
    takeCharacter code err s
      = txPump (s.onFramer fun fr => { fr with farPaused := farPauseCode s code }) := by
  simp [takeCharacter, hfar]

theorem takeCharacter_room (hfar : isFarPauseCode s code err = false) (hroom : s.framer.rxf.length < 64) :
    takeCharacter code err s = pauseTest (rxfJoined code err s) := by
  rw [takeCharacter, if_neg (by simp [hfar]), if_pos (by exact hroom)]
  by_cases herr : err = .none <;> simp only [herr, if_true, if_false, rxfJoined] <;> rfl

theorem takeCharacter_full (hfar : isFarPauseCode s code err = false) (hfull : 64 ≤ s.framer.rxf.length) :
    takeCharacter code err s = { s with
      framer := { s.framer with overrun := true }
      raised := s.raised ++ if s.framer.overrun then [] else [.rxOverrun] } := by
  cases hover : s.framer.overrun
  · simp [takeCharacter, hfar, Config.rxfCapacity, Nat.not_lt.2 hfull, hover, raise, State.onFramer]
  · simp [takeCharacter, hfar, Config.rxfCapacity, Nat.not_lt.2 hfull, hover]
    simp [← hover]

/-- A code that acts on far pause: the pause code sets the far-paused state, the resume code clears it,
and one that is both changes it (05 R107). -/
theorem farPauseCode_acts (hfar : isFarPauseCode s code err = true) :
    farPauseCode s code = if code = byteOf (s.opt 7).toNat ∧ code = byteOf (s.opt 8).toNat
      then !s.framer.farPaused else decide (code = byteOf (s.opt 7).toNat) := by
  have hcode : code = byteOf (s.opt 7).toNat ∨ code = byteOf (s.opt 8).toNat := by
    simpa using (Bool.and_eq_true_iff.1 hfar).2
  by_cases hpause : code = byteOf (s.opt 7).toNat <;>
    by_cases hresume : code = byteOf (s.opt 8).toNat
  · simp [farPauseCode, ← hpause, ← hresume]
  · simp [farPauseCode, ← hpause, hresume]
  · simp [farPauseCode, hpause, ← hresume]
  · exact absurd hcode (by simp [hpause, hresume])

/-- A far pause or resume code leaves RXF, the error count and the notices (R100 (1)). -/
theorem takeCharacter_far_keeps (hfar : isFarPauseCode s code err = true) :
    (takeCharacter code err s).raised = s.raised ∧ (takeCharacter code err s).link.errCount = s.link.errCount
      ∧ (takeCharacter code err s).framer.rxf = s.framer.rxf
      ∧ (takeCharacter code err s).framer.farPaused = farPauseCode s code := by
  rw [takeCharacter_far hfar, txPump_only, txPump_framer]
  exact ⟨rfl, rfl, rfl, rfl⟩

/-- A far pause or resume code that lets the transmitter take nothing changes the far-paused state
only. -/
theorem takeCharacter_far_stays (hfar : isFarPauseCode s code err = true)
    (h : s.framer.inFlight ≠ none ∨ farPauseCode s code = true ∧ s.framer.flow = []) :
    takeCharacter code err s = { s with framer := { s.framer with farPaused := farPauseCode s code } } :=
  (takeCharacter_far hfar).trans (txPump_stays (h.elim (fun hflight => .inr (.inl hflight))
    fun ⟨hpaused, hflow⟩ => .inr (.inr (.inr ⟨hflow, .inl hpaused⟩))))

/-- A character that joins RXF counts its error and raises no notice (R100 (2)). -/
theorem takeCharacter_room_keeps (hfar : isFarPauseCode s code err = false)
    (hroom : s.framer.rxf.length < 64) :
    (takeCharacter code err s).raised = s.raised
      ∧ (takeCharacter code err s).link.errCount = (rxfJoined code err s).link.errCount
      ∧ (takeCharacter code err s).framer.rxf = s.framer.rxf ++ [⟨code, err⟩]
      ∧ (takeCharacter code err s).framer.farPaused = s.framer.farPaused := by
  rw [takeCharacter_room hfar hroom]
  obtain ⟨hrxf, hpaused⟩ := pauseTest_framer (rxfJoined code err s)
  rw [hrxf, hpaused, pauseTest_only]
  exact ⟨rfl, rfl, rfl, rfl⟩

/-- The count of an error within 0 to 99 (04 R95). -/
theorem rxfJoined_errCount (h : s.link.errCount ≤ 99) : (rxfJoined code err s).link.errCount
    = if err = .none then s.link.errCount else min 99 (s.link.errCount + 1) := by
  simp only [rxfJoined]
  split
  · rfl
  · split <;> omega

/-- The entry that makes 48 or more is the one after which the paused state may be set. -/
theorem pauses_rxfJoined : Pauses (rxfJoined code err s) ↔ s.opt 6 = 1 ∧ s.framer.paused = false
    ∧ 47 ≤ s.framer.rxf.length ∧ (s.link.state = .online ∨ s.link.state = .fade) := by
  have hlength : (rxfJoined code err s).framer.rxf.length = s.framer.rxf.length + 1 := by simp [rxfJoined]
  rw [Pauses, hlength, Nat.add_one_le_add_one_iff]
  rfl

/-- A completed character touches the error count, the framer and the notices only. -/
theorem takeCharacter_only (code : Byte) (err : ErrKind) (s : State) :
    takeCharacter code err s = { s with
      raised := (takeCharacter code err s).raised
      framer := (takeCharacter code err s).framer
      link := { s.link with errCount := (takeCharacter code err s).link.errCount } } := by
  cases hfar : isFarPauseCode s code err
  · by_cases hroom : s.framer.rxf.length < 64
    · rw [takeCharacter_room hfar hroom, pauseTest_only]
      rfl
    · rw [takeCharacter_full hfar (Nat.not_lt.1 hroom)]
  · rw [takeCharacter_far hfar, txPump_only]
    rfl

end Take

/-! ### CHARACTER_RECEIVED (O45) -/

section Received

variable {s : State} {f : Framing} {b : Byte} {par stop : Bool} {lv : Int}

/-- What stands behind a character that has been taken: the gain and the framer's next state. -/
def characterEnds (f : Framing) (stop : Bool) (u : State) : State := { u with
  framer := { u.framer with rx := if stop then .ready else .waitMark }
  link := { u.link with
    gain := (gainAtCharacter u).link.gain, gainPending := false
    spaceRun := if stop then none else some (u.link.spaceRun.getD f) } }

/-- The level at a character's end held as L (04 R73; log entry 30). -/
def levelHeld (lv : Int) (s : State) : State := { s with link := { s.link with level := some lv } }

theorem clampLevel_eq (hlo : -600 ≤ lv) (hhi : lv ≤ 0) : clampLevel lv = lv := by
  simp [clampLevel, clampInt, Int.not_lt.2 hlo, Int.not_lt.2 hhi]

theorem characterCompletes_idle (h : ∀ f, s.framer.rx ≠ .assembling f) :
    characterCompletes b par stop lv s = s := by
  unfold characterCompletes
  split
  · next hrx => exact absurd hrx (h _)
  · rfl

theorem characterCompletes_assembling (hrx : s.framer.rx = .assembling f) (hlo : -600 ≤ lv) (hhi : lv ≤ 0) :
    characterCompletes b par stop lv s = characterEnds f stop
      (takeCharacter (sampledCode f b) (errorKind f b par stop) (levelHeld lv s)) := by
  simp only [characterCompletes, hrx, clampLevel_eq hlo hhi, State.onLink, afterStopBit]
  rw [gainAtCharacter_eq]
  rfl

theorem exec_characterReceived (hs : Awake s) (hrx : s.framer.rx = .assembling f) (hlo : -600 ≤ lv)
    (hhi : lv ≤ 0) : exec (.characterReceived b par stop lv) s = .next (placeNotices (characterEnds f stop
      (takeCharacter (sampledCode f b) (errorKind f b par stop) (levelHeld lv s)))) :=
  (event_next hs.1).trans (by rw [characterCompletes_assembling hrx hlo hhi])

theorem errorKind_eq : errorKind f b par stop
    = if stop = false then .framing
      else if f.parity ≠ 0 ∧ par ≠ parityOf f.parity (dataBitsOf f.dataBits.toNat (sampledCode f b))
        then .parity else .none := by
  cases stop <;> simp [errorKind]

end Received

/-- Settles O45: the character is taken by one of the three rules of `takeCharacter`, and the gain and the
framer's state behind it do not depend on which. -/
theorem receivedCharacterEntersRxf : Obligations.ReceivedCharacterEntersRxf := by
  refine ⟨fun s b par stop lv hs hrx => event_idle hs (characterCompletes_idle hrx), ?_⟩
  intro s b par stop lv f code err hs hrx hlo hhi hout hcode herr
  have hexec := exec_characterReceived (b := b) (par := par) (stop := stop) hs hrx hlo hhi
  have hkind : err = errorKind f b par stop := by rw [herr, hcode, errorKind_eq]; rfl
  rw [← hkind, show sampledCode f b = code from hcode.symm] at hexec
  obtain ⟨rs, fr, n, htake⟩ : ∃ rs fr n, takeCharacter code err (levelHeld lv s)
      = { levelHeld lv s with
          raised := rs, framer := fr, link := { (levelHeld lv s).link with errCount := n } } :=
    ⟨_, _, _, takeCharacter_only code err (levelHeld lv s)⟩
  rw [htake] at hexec
  refine ⟨_, hexec, ?_, rfl, rfl, fun hpending => gainAtCharacter_pending hpending,
    fun hnone => gainAtCharacter_step hnone rfl, fun far hdef => ⟨fun hfar => ?_, fun hfar hroom => ?_,
      fun hfar hfull => ?_⟩⟩
  · simp [placeNotices, characterEnds, levelHeld, hs.2]
  · have hacts : isFarPauseCode (levelHeld lv s) code err = true := hdef.symm.trans hfar
    obtain ⟨hraised, hcount, hrxf, hpaused⟩ := takeCharacter_far_keeps hacts
    rw [htake] at hraised hcount hrxf hpaused
    obtain rfl : rs = [] := hraised.trans hs.2
    refine ⟨hrxf, hcount, rfl, hpaused.trans (farPauseCode_acts hacts), fun hstays => ?_⟩
    have hframer : fr = { s.framer with farPaused := farPauseCode (levelHeld lv s) code } :=
      congrArg State.framer (htake.symm.trans
        (takeCharacter_far_stays hacts (hstays.imp_right fun ⟨hp, hflow⟩ => ⟨hpaused.symm.trans hp, hflow⟩)))
    rw [hframer]
    rfl
  · have hother : isFarPauseCode (levelHeld lv s) code err = false := hdef.symm.trans hfar
    obtain ⟨hraised, hcount, hrxf, hpaused⟩ := takeCharacter_room_keeps hother hroom
    rw [htake] at hraised hcount hrxf hpaused
    obtain rfl : rs = [] := hraised.trans hs.2
    have hframer : fr = (pauseTest (rxfJoined code err (levelHeld lv s))).framer :=
      congrArg State.framer (htake.symm.trans (takeCharacter_room hother hroom))
    refine ⟨hrxf, rfl, hpaused, fun hle => hcount.trans (rxfJoined_errCount hle),
      fun pauses flow hpauses hflow => ?_⟩
    have hiff : pauses = true ↔ Pauses (rxfJoined code err (levelHeld lv s)) := by
      rw [pauses_rxfJoined, hpauses]
      simp only [Bool.and_eq_true, Bool.or_eq_true, Bool.not_eq_true', decide_eq_true_eq, and_assoc]
      rfl
    refine ⟨fun hno => ?_, fun hyes hwaits => ?_, fun hyes honline hidle hbreak head fl hhead => ?_⟩
    · rw [hframer, pauseTest_stays (mt hiff.2 (by simp [hno]))]
      rfl
    · rw [hframer, pauseTest_waits (hiff.1 hyes) hwaits, hflow]
      rfl
    · rw [hframer, pauseTest_takes (hiff.1 hyes) honline hidle hbreak (hflow.symm.trans hhead)]
      rfl
  · have hother : isFarPauseCode (levelHeld lv s) code err = false := hdef.symm.trans hfar
    have hrule := htake.symm.trans (takeCharacter_full hother hfull)
    obtain rfl : fr = { s.framer with overrun := true } := congrArg State.framer hrule
    have hraised : rs = if s.framer.overrun then [] else [.rxOverrun] :=
      (congrArg State.raised hrule).trans (by simp [levelHeld, hs.2])
    refine ⟨rfl, congrArg (fun u => u.link.errCount) hrule, ?_⟩
    show rs.foldl placeNotice s.port = _
    rw [hraised]
    cases s.framer.overrun
    · exact placeNotice_room (n := .rxOverrun) (by exact Nat.add_le_add_right hout 2)
    · simp

end Sys2Proof.Machine

/-! PROOFS: space runs, the received break and the disconnect space (O46). -/

namespace Sys2Proof.Machine

/-! ### Notices on one event -/

/-- Notices for which there is room stand in the output FIFO in the order in which they were raised
(11 R202). -/
theorem foldl_placeNotice_room {ns : List Notice} {p : Port}
    (h : p.out.length + (ns.flatMap Notice.bytes).length ≤ 128) :
    ns.foldl placeNotice p = { p with out := p.out ++ ns.flatMap Notice.bytes } := by
  induction ns generalizing p with
  | nil => simp
  | cons n ns ih =>
    simp only [List.flatMap_cons, List.length_append] at h ⊢
    rw [List.foldl_cons, placeNotice_room (by omega), ih (by simp only [List.length_append]; omega)]
    simp

/-- Behind `t` at most one notice more is raised than behind `s`, and it is a HOLD CHANGE. -/
def RaisesHold (s t : State) : Prop :=
  t.raised = s.raised ∨ ∃ set, t.raised = s.raised ++ [.holdChange set]

theorem RaisesHold.keep {s t u : State} (h : RaisesHold s t) (hu : u.raised = t.raised) :
    RaisesHold s u := by
  rwa [RaisesHold, hu]

theorem RaisesHold.after {s t u : State} (h : RaisesHold t u) (ht : t.raised = s.raised) :
    RaisesHold s u := by
  rwa [RaisesHold, ← ht]

theorem setCause_raises (c : HoldCause) (s : State) : RaisesHold s (setCause c s) := by
  unfold setCause
  split
  · exact .inl rfl
  · exact .inr ⟨_, rfl⟩

theorem enterHeld_raised (s : State) : (enterHeld s).raised = s.raised := by
  unfold enterHeld
  split <;> rfl

theorem enterIdle_raised (s : State) : (enterIdle s).raised = s.raised := by
  unfold enterIdle
  split <;> rfl

theorem beginFiring_raised (inp : RowInputs) (s : State) : (beginFiring inp s).raised = s.raised := by
  unfold beginFiring
  dsimp only
  split <;> rfl

theorem beginPrinted_raised (s : State) : (beginPrinted s).raised = s.raised := by
  unfold beginPrinted
  dsimp only
  split
  · rfl
  · exact beginFiring_raised _ _

theorem lowSupplyStop_raises (s : State) : RaisesHold s (lowSupplyStop s) :=
  (setCause_raises _ s).keep (enterHeld_raised _)

theorem beginEntryRow_raises (e : Entry) (s : State) : RaisesHold s (beginEntryRow e s) := by
  unfold beginEntryRow
  split
  · exact lowSupplyStop_raises s
  · split
    · split
      · exact .inl (beginPrinted_raised s)
      · exact .inl rfl
    · exact .inl rfl

/-- The engine's decision raises a HOLD CHANGE where LOW SUPPLY joins the set, and nothing else
(03 R39, R42). -/
theorem engineDecide_raises (s : State) : RaisesHold s (engineDecide s) := by
  unfold engineDecide
  dsimp only
  split
  · unfold beginDirectRow
    split
    · exact lowSupplyStop_raises s
    · exact .inl rfl
  · split
    · exact .inl (enterHeld_raised _)
    · split
      · exact (beginEntryRow_raises _ _).after rfl
      · exact .inl (enterIdle_raised _)

theorem appendEntries_raises (es : List Entry) (s : State) : RaisesHold s (appendEntries es s) := by
  unfold appendEntries offerHead
  split
  · exact (engineDecide_raises _).after rfl
  · exact .inl rfl

theorem closeLine_raises {nm : LineName} {es : List Entry} {s t : State} (h : closeLine nm es s = some t) :
    RaisesHold s t := by
  have hclear : (clearLine nm s).raised = s.raised := by cases nm <;> rfl
  unfold closeLine at h
  split at h
  · cases h
    exact (appendEntries_raises _ _).after hclear
  · cases nm <;> cases h <;> exact .inl hclear

theorem commitRequest_raises (nm : LineName) (s : State) : RaisesHold s (commitRequest nm s) := by
  unfold commitRequest
  split
  · exact .inl rfl
  · cases hclose : closeLine nm [commitEntry s nm] s with
    | none => exact .inl rfl
    | some t => exact closeLine_raises hclose

/-! ### The report that an entry to DOWN abandons (09 R186) -/

/-- What `abandonReport` raises: REPORT ABANDONED and FORM STATE of a form in REPORTING. -/
def abandonNotices (inst : Option FormInst) : List Notice :=
  match inst with
  | some i =>
    if i.phase = .reporting then
      [.reportAbandoned i.number i.reportPos, .formState .closed i.number .abandoned .nobody]
    else []
  | none => []

/-- A report is abandoned with its two notices, and only the form unit changes. -/
theorem abandonReport_eq (s : State) : abandonReport s = { s with
    raised := s.raised ++ abandonNotices s.fu.inst, fu := (abandonReport s).fu } := by
  cases hinst : s.fu.inst with
  | none => simp [abandonReport, abandonNotices, hinst]
  | some i =>
    by_cases hphase : i.phase = .reporting <;>
      simp [abandonReport, abandonNotices, hinst, hphase, raiseFormState, raise, putInst, State.onFu]

theorem abandonReport_reporting {s : State} {i : FormInst} (hinst : s.fu.inst = some i)
    (hphase : i.phase = .reporting) : (abandonReport s).fu = { s.fu with inst := none } := by
  simp [abandonReport, hinst, hphase, raiseFormState]

theorem abandonNotices_reporting {i : FormInst} (hphase : i.phase = .reporting) :
    (abandonNotices (some i)).flatMap Notice.bytes = [0x5B, 0x03, byteOf i.number] ++ bytes16 i.reportPos
      ++ [0x58, 0x04, 0x00, byteOf i.number, 0x05, 0x00] := by
  simp only [abandonNotices, hphase, if_true]
  rfl

theorem abandonNotices_length (inst : Option FormInst) :
    ((abandonNotices inst).flatMap Notice.bytes).length ≤ 11 := by
  unfold abandonNotices
  split
  · split
    · exact Nat.le_refl 11
    · exact Nat.zero_le 11
  · exact Nat.zero_le 11

/-! ### Entry to DOWN from ONLINE or FADE (04 R94) -/

/-- The link, the framer and the parser of an entry to DOWN, with its LINK STATE notice. -/
def linkDown (cause : LinkCause) (s : State) : State :=
  let s1 := raise (.linkState .down cause) (applyPendingGain (s.onLink fun l =>
    { l with
      state := .down, role := .none, connectWait := none, qualify := none, holdover := none
      breakSend := .none, spaceRun := none, breakPending := false, level := none }))
  { s1.onFramer framerDown with dp := parserDown s1.dp }

theorem enterDown_connected {cause : LinkCause} {s : State}
    (h : s.link.state = .online ∨ s.link.state = .fade) :
    enterDown cause false s = abandonReport (commitRequest .far (linkDown cause s)) := by
  have hq : s.link.state ≠ .qualify := by rcases h with h | h <;> simp [h]
  simp [enterDown, hq, h, linkDown]

/-- A pending gain change touches the gain and itself only (04 R85). -/
theorem applyPendingGain_eq (s : State) : applyPendingGain s = { s with
    link := { s.link with gain := (applyPendingGain s).link.gain, gainPending := false } } := by
  unfold applyPendingGain
  split
  · rfl
  · next hpending =>
    rw [← Bool.eq_false_iff.2 hpending]

theorem linkDown_eq (cause : LinkCause) (s : State) : linkDown cause s = { s with
    raised := s.raised ++ [.linkState .down cause]
    link := { s.link with
      state := .down, role := .none, connectWait := none, qualify := none, holdover := none
      breakSend := .none, spaceRun := none, breakPending := false, level := none
      gain := (linkDown cause s).link.gain, gainPending := false }
    framer := framerDown s.framer
    dp := parserDown s.dp } := by
  unfold linkDown
  rw [applyPendingGain_eq]
  rfl

section Down

variable {cause : LinkCause} {s : State}

theorem commitRequest_linkDown_fu : (commitRequest .far (linkDown cause s)).fu = s.fu := by
  rw [commitRequest_only, linkDown_eq]

/-- The link and the framer behind an entry to DOWN, whatever the FAR line's commit sets off. -/
theorem enterDown_connected_leaves (h : s.link.state = .online ∨ s.link.state = .fade) :
    (enterDown cause false s).link = (linkDown cause s).link
      ∧ (enterDown cause false s).framer = framerDown s.framer
      ∧ (enterDown cause false s).port = s.port := by
  rw [enterDown_connected h, abandonReport_eq, commitRequest_only, linkDown_eq]
  exact ⟨rfl, rfl, rfl⟩

/-- An entry to DOWN closes a form in REPORTING (09 R186). -/
theorem enterDown_connected_form {i : FormInst} (h : s.link.state = .online ∨ s.link.state = .fade)
    (hinst : s.fu.inst = some i) (hphase : i.phase = .reporting) :
    (enterDown cause false s).fu = { s.fu with inst := none } := by
  have hform : (commitRequest .far (linkDown cause s)).fu.inst = some i := by
    rw [commitRequest_linkDown_fu, hinst]
  rw [enterDown_connected h, abandonReport_reporting hform hphase, commitRequest_linkDown_fu]

/-- LINK STATE stands first, then at most one HOLD CHANGE of the FAR line's commit, then the notices of an
abandoned report (log entry 20). -/
theorem enterDown_connected_raised (h : s.link.state = .online ∨ s.link.state = .fade)
    (hr : s.raised = []) : ∃ holds : List Notice,
    (enterDown cause false s).raised = .linkState .down cause :: (holds ++ abandonNotices s.fu.inst)
      ∧ (holds.flatMap Notice.bytes).length ≤ 3 := by
  have hraised : (enterDown cause false s).raised
      = (commitRequest .far (linkDown cause s)).raised ++ abandonNotices s.fu.inst := by
    rw [enterDown_connected h, abandonReport_eq, commitRequest_linkDown_fu]
  have hdown : (linkDown cause s).raised = [.linkState .down cause] := by rw [linkDown_eq, hr]; rfl
  rw [hraised]
  rcases commitRequest_raises .far (linkDown cause s) with hcommit | ⟨set, hcommit⟩ <;> rw [hcommit, hdown]
  · exact ⟨[], rfl, Nat.zero_le 3⟩
  · exact ⟨[.holdChange set], rfl, Nat.le_refl 3⟩

/-- The output FIFO behind an entry to DOWN with room for its notices. -/
theorem enterDown_connected_out (h : s.link.state = .online ∨ s.link.state = .fade) (hr : s.raised = [])
    (hout : s.port.out.length ≤ 90) : ∃ holds : List Byte,
    (placeNotices (enterDown cause false s)).port.out = s.port.out ++ [0x44, 0x02, 0x00, cause.byte]
      ++ (holds ++ (abandonNotices s.fu.inst).flatMap Notice.bytes) := by
  obtain ⟨holds, hraised, hlen⟩ := enterDown_connected_raised (cause := cause) h hr
  obtain ⟨-, -, hport⟩ := enterDown_connected_leaves (cause := cause) h
  have habandon := abandonNotices_length s.fu.inst
  have hbytes : (Notice.linkState .down cause).bytes = [0x44, 0x02, 0x00, cause.byte] := rfl
  refine ⟨holds.flatMap Notice.bytes, ?_⟩
  rw [placeNotices_port, hraised, hport, foldl_placeNotice_room]
  · simp [hbytes]
  · simp only [List.flatMap_cons, List.flatMap_append, List.length_append, hbytes, List.length_cons,
      List.length_nil]
    omega

end Down

/-! ### The received break (04 R89, 01 R20) -/

/-- The FAR entries leave the queue with no entry in print, and nothing waits behind (01 R20). -/
theorem breakPrintPath_idle {s : State} (hprint : s.pq.inPrint = false) (hblock : s.pq.pendingBlock = none)
    (hwait : s.pq.waitList = [] ∨ s.pq.waitList = [.far]) : breakPrintPath s = { s with
      la := { s.la with far := emptyLine, farHoldMs := 0 }
      pq := { s.pq with
        entries := s.pq.entries.filter fun e => e.source ≠ .far, waitList := [] } } := by
  have hkeep : (fun e : Entry => !decide (e.source = .far)) = fun e => decide (e.source ≠ .far) :=
    funext fun e => (decide_not ..).symm
  have hnamed : Entry.ofSources [.far] = fun e => decide (e.source = .far) :=
    funext fun e => by simp [Entry.ofSources]
  have hlist : s.pq.waitList.filter (· ≠ .far) = [] := by rcases hwait with h | h <;> simp [h]
  unfold breakPrintPath
  dsimp only
  rw [purgeEntries_none hnamed (by exact hprint), hkeep,
    serveWaitList_empty (by exact hblock) (by exact hlist)]
  simp only [State.onPq, hlist]

theorem clearRxf_unpaused {s : State} (h : s.framer.paused = false) :
    clearRxf s = { s with framer := { s.framer with rxf := [], overrun := false } } := by
  simp [clearRxf, queueResume, h, State.onFramer]

theorem receiveBreak_idle {s : State} (hpaused : s.framer.paused = false) (hprint : s.pq.inPrint = false)
    (hblock : s.pq.pendingBlock = none) (hwait : s.pq.waitList = [] ∨ s.pq.waitList = [.far]) :
    receiveBreak s = raise .receivedBreak { s with
      link := { s.link with spaceRun := none, breakPending := false }
      framer := { s.framer with rx := .ready, rxf := [], overrun := false }
      dp := .text
      la := { s.la with far := emptyLine, farHoldMs := 0 }
      pq := { s.pq with
        entries := s.pq.entries.filter fun e => e.source ≠ .far, waitList := [] } } := by
  rw [receiveBreak, clearRxf_unpaused (by exact hpaused),
    breakPrintPath_idle (by exact hprint) (by exact hblock) (by exact hwait)]
  rfl

/-! ### Space runs (04 R88, R90; 05 R98) -/

section SpaceRun

variable {s : State}

theorem spaceBegins_ready (honline : s.link.state = .online) (hready : s.framer.rx = .ready)
    (hrun : s.link.spaceRun = none) : spaceBegins true s = { s with
      framer := { s.framer with rx := .assembling (currentFraming s) }
      link := { s.link with spaceRun := some (currentFraming s) } } := by
  simp [spaceBegins, honline, hready, hrun, receiveFraming, State.onLink, State.onFramer]

/-- A false start bit leaves neither a character nor a space run (05 R98 (3)). -/
theorem spaceBegins_false (honline : s.link.state = .online) (hready : s.framer.rx = .ready)
    (hrun : s.link.spaceRun = none) : spaceBegins false s = s := by
  have hends : spaceBegins false s = { s with link := { s.link with spaceRun := none } } := by
    simp [spaceBegins, honline, hready, State.onLink]
  rw [hends, ← hrun]

theorem markSeen_plain (honline : s.link.state = .online) (hbreak : s.link.breakPending = false) :
    markSeen s = { s with
      framer := { s.framer with rx := if s.framer.rx = .waitMark then .ready else s.framer.rx }
      link := { s.link with spaceRun := none } } := by
  simp [markSeen, honline, hbreak, State.onLink, State.onFramer]

theorem breakBecomesPending_run (honline : s.link.state = .online) (hrun : s.link.spaceRun ≠ none) :
    breakBecomesPending s = { s with
      framer := { s.framer with rx := .waitMark }, link := { s.link with breakPending := true } } :=
  if_pos ⟨honline, Option.isSome_iff_ne_none.2 hrun⟩

theorem breakBecomesPending_idle (h : s.link.state ≠ .online ∨ s.link.spaceRun = none) :
    breakBecomesPending s = s :=
  if_neg fun ⟨honline, hrun⟩ => h.elim (· honline) (Option.isSome_iff_ne_none.1 hrun)

theorem breakEnds_idle (h : s.link.state ≠ .online ∨ s.link.breakPending = false) : breakEnds s = s :=
  if_neg fun ⟨honline, hbreak⟩ => h.elim (· honline) (by simp [hbreak])

theorem disconnectSpace_idle (h : s.link.state ≠ .online ∨ s.link.spaceRun = none) :
    disconnectSpace s = s :=
  if_neg fun ⟨honline, hrun⟩ => h.elim (· honline) (Option.isSome_iff_ne_none.1 hrun)

theorem disconnectSpace_run (honline : s.link.state = .online) (hrun : s.link.spaceRun ≠ none) :
    disconnectSpace s = enterDown .disconnectSpace false s :=
  if_pos ⟨honline, Option.isSome_iff_ne_none.2 hrun⟩

end SpaceRun

/-- Settles O46, row by row; the received break with room for its notice, and the disconnect space by what
an entry to DOWN leaves. -/
theorem spaceRunsMakeBreaksAndDisconnects : Obligations.SpaceRunsMakeBreaksAndDisconnects := by
  intro s hs
  have hquiet : s.raised = [] := hs.2
  refine ⟨fun hoff => ⟨fun b => event_idle hs (if_pos hoff), event_idle hs (if_pos hoff),
      event_idle hs (breakBecomesPending_idle (.inl hoff)), event_idle hs (breakEnds_idle (.inl hoff)),
      event_idle hs (disconnectSpace_idle (.inl hoff))⟩,
    fun hrun => ⟨event_idle hs (breakBecomesPending_idle (.inr hrun)),
      event_idle hs (disconnectSpace_idle (.inr hrun))⟩,
    fun hbreak => event_idle hs (breakEnds_idle (.inr hbreak)),
    fun honline => ⟨?_, fun hbreak => ?_, fun hrun => ?_, ?_, fun hrun hout => ?_⟩⟩
  · rintro hready hrun f rfl
    have hbegins := spaceBegins_ready honline hready hrun
    exact ⟨(event_quiet hs (by rw [hbegins]; exact hquiet)).trans (by rw [hbegins]; rfl),
      event_idle hs (spaceBegins_false honline hready hrun)⟩
  · have hmark := markSeen_plain honline hbreak
    exact (event_quiet hs (by rw [hmark]; exact hquiet)).trans (by rw [hmark])
  · have hpending := breakBecomesPending_run honline hrun
    exact (event_quiet hs (by rw [hpending]; exact hquiet)).trans (by rw [hpending])
  · intro hbreak hpaused hprint hblock hwait hout
    have hends : breakEnds s = receiveBreak s := if_pos ⟨honline, hbreak⟩
    refine (event_next hs.1).trans ?_
    rw [hends, receiveBreak_idle hpaused hprint hblock hwait,
      placeNotices_one (by exact hquiet) (by exact Nat.add_le_add_right hout 2)]
    rfl
  · have hevent : exec .disconnectSpace s = .next (placeNotices (enterDown .disconnectSpace false s)) :=
      (event_next hs.1).trans (by rw [disconnectSpace_run honline hrun])
    obtain ⟨hlink, hframer, -⟩ := enterDown_connected_leaves (cause := .disconnectSpace) (.inl honline)
    obtain ⟨holds, hplaced⟩ := enterDown_connected_out (cause := .disconnectSpace) (.inl honline) hquiet hout
    rw [linkDown_eq] at hlink
    have hrxf : (placeNotices (enterDown .disconnectSpace false s)).framer.rxf = s.framer.rxf := by
      rw [placeNotices_framer, hframer]
      rfl
    refine ⟨_, _, hevent, congrArg Link.state hlink, congrArg Link.role hlink, congrArg Link.spaceRun hlink,
      congrArg Link.breakPending hlink, hrxf, congrArg Framer.flow hframer,
      congrArg Framer.data hframer, congrArg Framer.inFlight hframer, hplaced, fun i hinst hphase => ?_⟩
    refine ⟨enterDown_connected_form (.inl honline) hinst hphase, holds, ?_⟩
    rw [hinst, abandonNotices_reporting hphase]
    simp only [List.append_assoc]

end Sys2Proof.Machine

/-! PROOFS: replies and report bytes into TXQ (O48). -/

namespace Sys2Proof.Machine

/-! ### Room in TXQ (05 R110) -/

section Transmit

variable {s : State} {r : List Byte}

theorem txqOpen_iff : txqOpen s = true ↔ s.link.state = .online ∨ s.link.state = .fade := by
  simp [txqOpen]

theorem dataFits_iff {k : Nat} {fr : Framer} : dataFits k fr = true ↔ fr.data.length + k ≤ 158 :=
  decide_eq_true_iff

theorem replyWaits_eq_false (h : ∀ r, s.dp ≠ .replyWait r) : replyWaits s = false := by
  unfold replyWaits
  split
  · next hdp => exact absurd hdp (h _)
  · rfl

/-- Off ONLINE, or behind a character in flight, data bytes join TXQ and wait there. -/
theorem addData_waits (h : s.link.state ≠ .online ∨ s.framer.inFlight ≠ none) :
    addData r s = { s with framer := { s.framer with data := s.framer.data ++ r } } :=
  txPump_stays (h.imp_right .inl)

/-! ### REPLY ADD (06 R126 (2)) -/

theorem addReply_none (h : ∀ r, s.dp ≠ .replyWait r) : addReply s = s := by
  unfold addReply
  split
  · next hdp => exact absurd hdp (h _)
  · rfl

/-- A waiting reply that fits joins TXQ whole, and the parser takes text again. -/
theorem addReply_joins (hdp : s.dp = .replyWait r) (hopen : s.link.state = .online ∨ s.link.state = .fade)
    (hroom : s.framer.data.length + r.length ≤ 158) : addReply s = addData r { s with dp := .text } := by
  rw [addReply, hdp]
  exact if_pos ⟨txqOpen_iff.2 hopen, dataFits_iff.2 hroom⟩

theorem addReply_full (hdp : s.dp = .replyWait r) (hfull : 158 < s.framer.data.length + r.length) :
    addReply s = s := by
  rw [addReply, hdp]
  exact if_neg fun ⟨_, hfits⟩ => Nat.not_le.2 hfull (dataFits_iff.1 hfits)

/-! ### REPORT BYTE ADD (09 R185) -/

/-- The feeder's guard: TXQ takes data bytes, no reply waits, and one byte fits. -/
def ReportFeeds (s : State) : Prop :=
  (s.link.state = .online ∨ s.link.state = .fade) ∧ (!replyWaits s) = true ∧ dataFits 1 s.framer = true

/-- Without a REPORTING form, or with the guard false, the feeder adds nothing. -/
theorem feedReport_idle (h : s.fu.inst.map FormInst.phase ≠ some .reporting ∨ ¬ReportFeeds s) :
    feedReport s = s := by
  unfold feedReport
  split
  · next i hinst =>
    split
    · next hphase _ =>
      have hguard : ¬ReportFeeds s := h.resolve_left fun hnot => hnot (by simp [hinst, hphase])
      exact if_neg hguard
    · rfl
  · rfl

/-- The feeder adds the report's next byte; behind the last the form closes with REPORT SENT. -/
theorem feedReport_byte {i : FormInst} {b : Byte} {rest : List Byte} (hinst : s.fu.inst = some i)
    (hphase : i.phase = .reporting) (hreport : i.report.drop i.reportPos = b :: rest)
    (hguard : ReportFeeds s) :
    feedReport s = if rest = [] then
        raiseFormState .closed i.number .reportSent .nobody (putInst none (addData [b] s))
      else putInst (some { i with reportPos := i.reportPos + 1 }) (addData [b] s) := by
  rw [feedReport, hinst]
  simp only [hphase, hreport]
  refine (if_pos hguard).trans ?_
  simp only [List.isEmpty_iff]

end Transmit

/-- Settles O48: the reply by its room in TXQ, the report byte by the feeder's guard and what stands behind
the byte. -/
theorem repliesAndReportsJoinTxqWhole : Obligations.RepliesAndReportsJoinTxqWhole := by
  intro s hs hflight hout
  have hquiet : s.raised = [] := hs.2
  refine ⟨fun r hdp => ⟨fun hopen hroom => ?_, fun hfull => event_idle hs (addReply_full hdp hfull),
      event_idle hs (feedReport_idle (.inr fun ⟨_, hnone, _⟩ => ?_))⟩,
    fun hnone => event_idle hs (addReply_none hnone),
    fun hidle => event_idle hs (feedReport_idle (hidle.imp_right fun h ⟨hopen, _, hroom⟩ => ?_)), ?_⟩
  · have hjoin := (addReply_joins hdp hopen hroom).trans (addData_waits (.inr hflight))
    exact (event_quiet hs (by rw [hjoin]; exact hquiet)).trans (by rw [hjoin])
  · simp [replyWaits, hdp] at hnone
  · rw [dataFits_iff] at hroom
    rcases h with hfull | ⟨honline, hfade⟩
    · omega
    · exact hopen.elim honline hfade
  · intro i b rest hinst hphase hreport hopen hnone hroom
    have hguard : ReportFeeds s :=
      ⟨hopen, by rw [replyWaits_eq_false hnone]; rfl, dataFits_iff.2 hroom⟩
    have hbyte := feedReport_byte hinst hphase hreport hguard
    rw [addData_waits (.inr hflight)] at hbyte
    refine ⟨fun hmore => ?_, fun hlast => ?_⟩
    · rw [if_neg hmore] at hbyte
      exact (event_quiet hs (by rw [hbyte]; exact hquiet)).trans (by rw [hbyte]; rfl)
    · rw [if_pos hlast] at hbyte
      have hevent : exec .reportByteAdd s = .next (placeNotices (feedReport s)) := event_next hs.1
      rw [hevent, hbyte, raiseFormState, placeNotices_one (by exact hquiet)]
      · rfl
      · exact Nat.add_le_add_right hout 6

end Sys2Proof.Machine

/-! PROOFS: the entry that the directive parser takes, and what the parser makes of it (O47). -/

namespace Sys2Proof.Machine

/-! ### How the event ends -/

theorem State.answered_nil (s : State) : s.answered [] = s := by
  simp [State.answered, State.onPort]

/-- DIRECTIVE_BYTE_TAKE in `s` ends in `w` with `bytes` behind what the output FIFO held: always where there
are none, else with the port's room. -/
def TakeEnds (s w : State) (bytes : List Byte) : Prop :=
  bytes = [] ∨ s.port.out.length ≤ 90 → exec .directiveByteTake s = .next (w.answered bytes)

section Ends

variable {s w : State}

/-- An event that raises no notice. -/
theorem exec_take_quiet (hs : Awake s) (htake : takeDirectiveByte s = w) (hw : w.raised = []) :
    exec .directiveByteTake s = .next w :=
  (event_quiet hs (by rw [htake]; exact hw)).trans (by rw [htake])

theorem TakeEnds.quiet (hs : Awake s) (htake : takeDirectiveByte s = w) (hw : w.raised = []) :
    TakeEnds s w [] := fun _ => by
  rw [State.answered_nil]
  exact exec_take_quiet hs htake hw

/-- An event that raises one notice. -/
theorem TakeEnds.told {n : Notice} (hs : Awake s) (htake : takeDirectiveByte s = raise n w)
    (hw : w.raised = []) (hport : w.port = s.port) (hsize : n.bytes.length ≤ 38) :
    TakeEnds s w n.bytes := fun hroom => by
  have hout : s.port.out.length ≤ 90 := hroom.resolve_left (by simp [Notice.bytes])
  have hevent : exec .directiveByteTake s = .next (placeNotices (takeDirectiveByte s)) := event_next hs.1
  rw [hevent, htake, placeNotices_one hw (by rw [hport]; omega)]

end Ends

/-! ### The head leaves RXF (05 R101, R102) -/

/-- The state with the head gone from RXF and `rest` left, no resume code due. -/
def rxfTaken (rest : List RxEntry) (s : State) : State := { s with framer := { s.framer with
  rxf := rest, overrun := s.framer.overrun && decide (48 ≤ rest.length) } }

/-- An unpaused framer owes no resume code. -/
theorem removeRxfHead_unpaused {s : State} {e : RxEntry} {rest : List RxEntry}
    (hpaused : s.framer.paused = false) (hrxf : s.framer.rxf = e :: rest) :
    removeRxfHead s = rxfTaken rest s := by
  simp [removeRxfHead, queueResume, hpaused, hrxf, State.onFramer, rxfTaken]

/-! ### Where no entry is taken (06 R116, R123) -/

section Idle

variable {s : State}

theorem takeDirectiveByte_idle (h : s.framer.rxf = [] ∨ (∃ c e r, s.dp = .offer c e r)
    ∨ (∃ w, s.dp = .storeWait w) ∨ ∃ r, s.dp = .replyWait r) : takeDirectiveByte s = s := by
  unfold takeDirectiveByte
  split
  · rfl
  · next hrxf =>
    obtain h | ⟨c, e, r, h⟩ | ⟨w, h⟩ | ⟨r, h⟩ := h
    · simp [hrxf] at h
    all_goals simp only [h]

theorem directiveTimedOut_ends (h : s.dp = .intro ∨ ∃ d bs, s.dp = .args d bs) :
    directiveTimedOut s = { s with dp := .text } := by
  unfold directiveTimedOut
  obtain h | ⟨d, bs, h⟩ := h <;> rw [h]

theorem directiveTimedOut_idle (hintro : s.dp ≠ .intro) (hargs : ∀ d bs, s.dp ≠ .args d bs) :
    directiveTimedOut s = s := by
  unfold directiveTimedOut
  split
  · next h => exact absurd h hintro
  · next h => exact absurd h (hargs _ _)
  · rfl

end Idle

/-! ### The parser's grammar (06 R117 to R122) -/

section Grammar

variable {s : State} {b : Byte} {err : ErrKind} {rest : List RxEntry} {d : Directive} {bs : List Byte}

/-- In TEXT an introducer leaves RXF for INTRO (R117). -/
theorem take_introducer (hpaused : s.framer.paused = false) (hrxf : s.framer.rxf = ⟨b, err⟩ :: rest)
    (hdp : s.dp = .text) (hb : b = 0x1C) (herr : err = .none) :
    takeDirectiveByte s = { rxfTaken rest s with dp := .intro } := by
  rw [takeDirectiveByte, hrxf, hdp]
  exact (if_pos ⟨hb, herr⟩).trans (by rw [removeRxfHead_unpaused hpaused hrxf])

/-- In TEXT any other entry is offered to the FAR line and stays in RXF for that time (R117, R118). -/
theorem take_offered (hrxf : s.framer.rxf = ⟨b, err⟩ :: rest) (hdp : s.dp = .text)
    (h : b ≠ 0x1C ∨ err ≠ .none) :
    takeDirectiveByte s = offerHeld { s with dp := .offer b err true } := by
  rw [takeDirectiveByte, hrxf, hdp]
  exact if_neg fun ⟨hb, herr⟩ => h.elim (· hb) (· herr)

/-- In INTRO the byte leaves RXF and is read as a letter (R119). -/
theorem take_letter (hpaused : s.framer.paused = false) (hrxf : s.framer.rxf = ⟨b, err⟩ :: rest)
    (hdp : s.dp = .intro) : takeDirectiveByte s = takeLetter ⟨b, err⟩ (rxfTaken rest s) := by
  rw [takeDirectiveByte, hrxf, hdp, ← removeRxfHead_unpaused hpaused hrxf]

/-- In ARGS the byte leaves RXF and is read as an argument (R120). -/
theorem take_argument (hpaused : s.framer.paused = false) (hrxf : s.framer.rxf = ⟨b, err⟩ :: rest)
    (hdp : s.dp = .args d bs) : takeDirectiveByte s = takeArg d bs ⟨b, err⟩ (rxfTaken rest s) := by
  rw [takeDirectiveByte, hrxf, hdp, ← removeRxfHead_unpaused hpaused hrxf]

/-- An error in INTRO or ARGS discards the directive (R121). -/
theorem take_error (hpaused : s.framer.paused = false) (hrxf : s.framer.rxf = ⟨b, err⟩ :: rest)
    (hdp : s.dp = .intro ∨ ∃ d bs, s.dp = .args d bs) (herr : err ≠ .none) :
    takeDirectiveByte s = { rxfTaken rest s with dp := .text } := by
  obtain hdp | ⟨d, bs, hdp⟩ := hdp
  · exact (take_letter hpaused hrxf hdp).trans (if_pos herr)
  · exact (take_argument hpaused hrxf hdp).trans (if_pos herr)

/-- An introducer in INTRO or ARGS begins a new directive (R121). -/
theorem take_restart (hpaused : s.framer.paused = false) (hrxf : s.framer.rxf = ⟨b, .none⟩ :: rest)
    (hdp : s.dp = .intro ∨ ∃ d bs, s.dp = .args d bs) (hb : b = 0x1C) :
    takeDirectiveByte s = { rxfTaken rest s with dp := .intro } := by
  obtain hdp | ⟨d, bs, hdp⟩ := hdp
  · exact (take_letter hpaused hrxf hdp).trans ((if_neg (fun h => h rfl)).trans (if_pos hb))
  · exact (take_argument hpaused hrxf hdp).trans ((if_neg (fun h => h rfl)).trans (if_pos hb))

/-- No directive has the introducer for its letter. -/
theorem Directive.ofByte?_ne_introducer (h : Directive.ofByte? b = some d) : b ≠ introducer := by
  rintro rfl
  simp [Directive.ofByte?, introducer] at h

/-- The letter of a directive without arguments carries it out (R119, R124). -/
theorem take_bareLetter (hpaused : s.framer.paused = false) (hrxf : s.framer.rxf = ⟨b, .none⟩ :: rest)
    (hdp : s.dp = .intro) (hletter : Directive.ofByte? b = some d) (hbare : d.bare = true) :
    takeDirectiveByte s = carryOut d [] { rxfTaken rest s with dp := .text } := by
  rw [take_letter hpaused hrxf hdp, takeLetter, if_neg (fun h => h rfl),
    if_neg (Directive.ofByte?_ne_introducer hletter)]
  simp only [hletter, hbare, if_true]

/-- The letter of a directive with arguments opens ARGS (R119). -/
theorem take_openingLetter (hpaused : s.framer.paused = false) (hrxf : s.framer.rxf = ⟨b, .none⟩ :: rest)
    (hdp : s.dp = .intro) (hletter : Directive.ofByte? b = some d) (hbare : d.bare = false) :
    takeDirectiveByte s = { rxfTaken rest s with dp := .args d [] } := by
  rw [take_letter hpaused hrxf hdp, takeLetter, if_neg (fun h => h rfl),
    if_neg (Directive.ofByte?_ne_introducer hletter)]
  simp [hletter, hbare]

/-- A byte that is none of the twelve letters. -/
theorem Directive.ofByte?_eq_none
    (h : b ∉ ([0x4F, 0x51, 0x41, 0x4B, 0x46, 0x56, 0x47, 0x43, 0x58, 0x55, 0x57, 0x4C] : List Byte)) :
    Directive.ofByte? b = none := by
  have hnat : b.toNat ∉ [0x4F, 0x51, 0x41, 0x4B, 0x46, 0x56, 0x47, 0x43, 0x58, 0x55, 0x57, 0x4C] := fun hb =>
    h (by simpa [← BitVec.toNat_inj] using hb)
  unfold Directive.ofByte?
  split <;> simp_all

/-- The letters F, V, G, U and W take arguments (Table 6-1). -/
theorem openingLetter_of_mem
    (h : (b, d) ∈ [((0x46 : Byte), Directive.f), (0x56, .v), (0x47, .g), (0x55, .u), (0x57, .w)]) :
    Directive.ofByte? b = some d ∧ d.bare = false := by
  simp only [List.mem_cons, Prod.mk.injEq, List.not_mem_nil, or_false] at h
  obtain ⟨rfl, rfl⟩ | ⟨rfl, rfl⟩ | ⟨rfl, rfl⟩ | ⟨rfl, rfl⟩ | ⟨rfl, rfl⟩ := h <;> exact ⟨rfl, rfl⟩

/-- A byte that is no letter goes back to TEXT (R119). -/
theorem take_noLetter (hpaused : s.framer.paused = false) (hrxf : s.framer.rxf = ⟨b, .none⟩ :: rest)
    (hdp : s.dp = .intro) (hb : b ≠ introducer) (hletter : Directive.ofByte? b = none) :
    takeDirectiveByte s = { rxfTaken rest s with dp := .text } := by
  rw [take_letter hpaused hrxf hdp, takeLetter, if_neg (fun h => h rfl), if_neg hb]
  simp only [hletter]

/-- A byte behind 40 of the partial directive discards it (R122). -/
theorem take_overlong (hpaused : s.framer.paused = false) (hrxf : s.framer.rxf = ⟨b, .none⟩ :: rest)
    (hdp : s.dp = .args d bs) (hb : b ≠ introducer) (hlong : 38 ≤ bs.length) :
    takeDirectiveByte s = { rxfTaken rest s with dp := .text } := by
  rw [take_argument hpaused hrxf hdp, takeArg, if_neg (fun h => h rfl), if_neg hb, if_pos]
  show 40 ≤ 2 + bs.length
  omega

/-- The test of the partial directive's length passes (R122). -/
theorem not_overlong (hshort : bs.length < 38) : ¬40 ≤ partialLength bs := by
  show ¬40 ≤ 2 + bs.length
  omega

/-- An argument byte with more to come joins the partial directive (R120). -/
theorem take_moreArgument (hpaused : s.framer.paused = false) (hrxf : s.framer.rxf = ⟨b, .none⟩ :: rest)
    (hdp : s.dp = .args d bs) (hb : b ≠ introducer) (hshort : bs.length < 38) (hfit : argFit d bs b = .more) :
    takeDirectiveByte s = { rxfTaken rest s with dp := .args d (bs ++ [b]) } := by
  rw [take_argument hpaused hrxf hdp, takeArg, if_neg (fun h => h rfl), if_neg hb,
    if_neg (not_overlong hshort)]
  simp only [hfit]

/-- The argument byte that makes the directive whole carries it out (R124). -/
theorem take_lastArgument (hpaused : s.framer.paused = false) (hrxf : s.framer.rxf = ⟨b, .none⟩ :: rest)
    (hdp : s.dp = .args d bs) (hb : b ≠ introducer) (hshort : bs.length < 38) (hfit : argFit d bs b = .done) :
    takeDirectiveByte s = carryOut d (bs ++ [b]) { rxfTaken rest s with dp := .text } := by
  rw [take_argument hpaused hrxf hdp, takeArg, if_neg (fun h => h rfl), if_neg hb,
    if_neg (not_overlong hshort)]
  simp only [hfit]

end Grammar

end Sys2Proof.Machine

/-! PROOFS: the FAR line and the codes of far-end text (O47). -/

namespace Sys2Proof.Machine

/-! ### How the FAR line takes a code (01 R12 to R17) -/

section FarLine

variable {s t : State} {b : Byte} {err : ErrKind}

/-- The hold count of the FAR line starts again (01 R17). -/
def farHoldRestarted (s : State) : State := { s with la := { s.la with farHoldMs := 0 } }

theorem isEmpty_far_waiting (h : s.la.far.waiting = []) : (s.line .far).waiting.isEmpty = true := by
  rw [List.isEmpty_iff]
  exact h

/-- A FAR line with waiting entries takes no code (01 R15). -/
theorem offerCode_far_refused (h : s.la.far.waiting ≠ []) : offerCode .far b err s = .refused s := by
  have hwaits : (s.line .far).waiting.isEmpty = false := by
    rw [← Bool.not_eq_true, List.isEmpty_iff]
    exact h
  simp [offerCode, hwaits]

theorem offerCode_far_printable (hwait : s.la.far.waiting = []) (hcode : printableCode b err = true)
    (htake : takePrintable .far b (err ≠ .none) s = .taken t) :
    offerCode .far b err s = .taken (farHoldRestarted t) := by
  simp only [offerCode, isEmpty_far_waiting hwait, hcode, htake]
  rfl

theorem printableCode_control (hb : b.toNat < 0x20 ∨ b.toNat = 0x7F) : printableCode b .none = false := by
  simp only [printableCode]
  simp
  omega

theorem offerCode_far_control (hwait : s.la.far.waiting = []) (hb : b.toNat < 0x20 ∨ b.toNat = 0x7F)
    (htake : takeControl .far b s = .taken t) : offerCode .far b .none s = .taken (farHoldRestarted t) := by
  simp only [offerCode, isEmpty_far_waiting hwait, printableCode_control hb, htake]
  rfl

/-- An empty FAR line places a printable code at column 0 (01 R12). -/
theorem takePrintable_far_empty {error : Bool} (hline : s.la.far = emptyLine) :
    takePrintable .far b error s = .taken (s.putLine .far
      ⟨[⟨0, ⟨b, false, false, error⟩⟩], 1, false, false, some (fontOf (s.opt 18)), []⟩) := by
  have hblank : s.line .far = emptyLine := hline
  have hroom : emptyLine.column + emptyLine.need ≤ lineWidth s emptyLine := by
    show 1 ≤ (fontOf (s.opt 18)).columns
    cases fontOf (s.opt 18) <;> decide
  simp only [takePrintable, hblank, if_pos hroom]
  rfl

/-! ### Closing the FAR line (01 R3, R14) -/

theorem clearLine_far (s : State) : clearLine .far s = { s with
    la := { s.la with farHoldMs := 0, far := { emptyLine with waiting := s.la.far.waiting } } } := rfl

theorem commitEntry_far (s : State) : commitEntry s .far =
    ⟨.far, .text (s.la.far.font.getD (if s.tor.nums.getD 17 0 = 0 then .std else .cond))
      (commitCells 0 s.la.far.cells) false (s.tor.nums.getD 18 0).toNat, false, false⟩ := rfl

/-- The append made at once. -/
theorem closeTake_far_append {es : List Entry} (hwait : s.la.far.waiting = [])
    (happend : canAppend es.length s.pq = true) (hbusy : s.pe.engine ≠ .idle) :
    closeTake .far es s = .taken { s with
      la := { s.la with farHoldMs := 0, far := emptyLine }
      pq := { s.pq with entries := s.pq.entries ++ es } } := by
  rw [closeTake, closeLine_append happend, appendEntries_busy (by exact hbusy), clearLine_far, hwait]
  rfl

/-- The entries wait with the line. -/
theorem closeTake_far_waits {es : List Entry} (hwaits : canAppend es.length s.pq = false) :
    closeTake .far es s = .taken { s with
      la := { s.la with farHoldMs := 0, far := { emptyLine with waiting := es } }
      pq := { s.pq with waitList := s.pq.waitList ++ [.far] } } := by
  simp only [closeTake, closeLine, hwaits]
  rfl

/-- 0Ah closes the FAR line with its entry, and 0Ch a line with a cell with a FEED behind it. -/
theorem takeControl_far_close (h : b = 0x0A ∨ (b = 0x0C ∧ s.la.far.cells ≠ [])) :
    takeControl .far b s = closeTake .far
      (commitEntry s .far :: if b = 0x0C then [⟨.far, .feed 96, false, false⟩] else []) s := by
  obtain rfl | ⟨rfl, hcells⟩ := h
  · rfl
  · exact if_neg (mt List.isEmpty_iff.1 hcells)

/-- A control code without a meaning does nothing (01 R14). -/
theorem takeControl_far_other (hb : b ∉ ([0x07, 0x08, 0x09, 0x0A, 0x0C, 0x0D, 0x0E, 0x0F, 0x16,
    0x17] : List Byte)) : takeControl .far b s = .taken s := by
  have hnat : b.toNat ∉ [0x07, 0x08, 0x09, 0x0A, 0x0C, 0x0D, 0x0E, 0x0F, 0x16, 0x17] := fun h =>
    hb (by simpa [← BitVec.toNat_inj] using h)
  unfold takeControl
  dsimp only
  split <;> simp_all

/-- 09h moves to the next column of eight, at most the line's width (01 R14). -/
theorem takeControl_far_tab {font : Font} {tab : Nat}
    (hfont : font = s.la.far.font.getD (if s.tor.nums.getD 17 0 = 0 then .std else .cond))
    (htab : tab = min ((s.la.far.column / 8 + 1) * 8) (if font = .std then 32 else 48)) :
    takeControl .far 0x09 s = .taken (s.putLine .far { s.la.far with column := tab }) := by
  have hwidth : (if font = .std then 32 else 48) = lineWidth s (s.line .far) := by
    rw [show lineWidth s (s.line .far) = font.columns from hfont ▸ rfl]
    cases font <;> rfl
  rw [htab, hwidth]
  rfl

/-! ### The code in OFFER (06 R118) -/

theorem offerHeld_refused {fromRxf : Bool} (hdp : s.dp = .offer b err fromRxf) (hwait : s.la.far.waiting ≠ []) :
    offerHeld s = s := by
  simp only [offerHeld, hdp, offerCode_far_refused hwait]

theorem offerHeld_text (hdp : s.dp = .offer b err true) (hoffer : offerCode .far b err s = .taken t) :
    offerHeld s = removeRxfHead { t with dp := .text } := by
  simp only [offerHeld, hdp, hoffer, if_true]

theorem offerHeld_directive (hdp : s.dp = .offer b err false) (hoffer : offerCode .far b err s = .taken t) :
    offerHeld s = { t with dp := .text } := by
  simp [offerHeld, hdp, hoffer]

end FarLine

/-! ### A text entry that the parser takes (06 R117, R118) -/

section TextEntry

variable {s t : State} {b : Byte} {err : ErrKind} {rest : List RxEntry}

/-- The state with the entry gone from RXF, the parser in TEXT, and the FAR line as given, its hold count
started again. -/
def farTaken (rest : List RxEntry) (s : State) (l : OpenLine) : State :=
  { rxfTaken rest s with dp := .text, la := { s.la with farHoldMs := 0, far := l } }

/-- The entry offered, still in RXF. -/
def offered (b : Byte) (err : ErrKind) (s : State) : State := { s with dp := .offer b err true }

/-- A text entry that the FAR line takes leaves RXF. -/
theorem take_text (hpaused : s.framer.paused = false) (hrxf : s.framer.rxf = ⟨b, err⟩ :: rest)
    (hdp : s.dp = .text) (h : b ≠ 0x1C ∨ err ≠ .none)
    (hoffer : offerCode .far b err (offered b err s) = .taken t) (hframer : t.framer = s.framer) :
    takeDirectiveByte s = rxfTaken rest { t with dp := .text } := by
  rw [take_offered hrxf hdp h, ← offered, offerHeld_text rfl hoffer]
  exact removeRxfHead_unpaused (by rw [hframer]; exact hpaused) (by rw [hframer]; exact hrxf)

/-- A control code that the FAR line takes. -/
theorem take_control (hpaused : s.framer.paused = false) (hrxf : s.framer.rxf = ⟨b, .none⟩ :: rest)
    (hdp : s.dp = .text) (hwait : s.la.far.waiting = []) (hb : b.toNat < 0x20 ∨ b.toNat = 0x7F)
    (hne : b ≠ 0x1C) (htake : takeControl .far b (offered b .none s) = .taken t)
    (hframer : t.framer = s.framer) :
    takeDirectiveByte s = rxfTaken rest { farHoldRestarted t with dp := .text } :=
  take_text hpaused hrxf hdp (.inl hne) (offerCode_far_control hwait hb htake) hframer

/-- A control code that changes the FAR line and nothing else. -/
theorem take_control_line {l : OpenLine} (hs : Awake s) (hpaused : s.framer.paused = false)
    (hrxf : s.framer.rxf = ⟨b, .none⟩ :: rest) (hdp : s.dp = .text) (hwait : s.la.far.waiting = [])
    (hb : b.toNat < 0x20 ∨ b.toNat = 0x7F) (hne : b ≠ 0x1C)
    (htake : takeControl .far b (offered b .none s) = .taken ((offered b .none s).putLine .far l)) :
    TakeEnds s (farTaken rest s l) [] :=
  .quiet hs (take_control hpaused hrxf hdp hwait hb hne htake rfl) hs.2

/-- 07h raises BELL and leaves the line. -/
theorem take_bell (hs : Awake s) (hpaused : s.framer.paused = false)
    (hrxf : s.framer.rxf = ⟨0x07, .none⟩ :: rest) (hdp : s.dp = .text) (hwait : s.la.far.waiting = []) :
    TakeEnds s (farTaken rest s s.la.far) [0x5C, 0x00] :=
  .told (n := .bell) hs
    (take_control (t := raise .bell (offered 0x07 .none s)) hpaused hrxf hdp hwait (.inl (by decide))
      (by decide) rfl rfl) hs.2 rfl (by decide)

/-- A printable code, or any code in error, in an empty FAR line. -/
theorem take_printable (hs : Awake s) (hpaused : s.framer.paused = false)
    (hrxf : s.framer.rxf = ⟨b, err⟩ :: rest) (hdp : s.dp = .text) (hline : s.la.far = emptyLine)
    (hcode : err ≠ .none ∨ (0x20 ≤ b.toNat ∧ b.toNat ≠ 0x7F)) :
    TakeEnds s (farTaken rest s ⟨[⟨0, ⟨b, false, false, decide (err ≠ .none)⟩⟩], 1, false, false,
      some (if s.tor.nums.getD 17 0 = 0 then .std else .cond), []⟩) [] := by
  have hprintable : printableCode b err = true := by simpa [printableCode] using hcode
  have hne : b ≠ 0x1C ∨ err ≠ .none := hcode.symm.imp_left fun ⟨hlo, _⟩ hb => by
    subst hb
    exact absurd hlo (by decide)
  refine .quiet hs (take_text hpaused hrxf hdp hne (offerCode_far_printable ?_ hprintable
    (takePrintable_far_empty hline)) rfl) hs.2
  show s.la.far.waiting = []
  rw [hline]
  rfl

/-- 0Ah, and 0Ch with a cell in the line, close the FAR line: its entries are appended at once or wait. -/
theorem take_close {es : List Entry} (hs : Awake s) (hpaused : s.framer.paused = false)
    (hrxf : s.framer.rxf = ⟨b, .none⟩ :: rest) (hdp : s.dp = .text) (hwait : s.la.far.waiting = [])
    (hb : b = 0x0A ∨ (b = 0x0C ∧ s.la.far.cells ≠ []))
    (hes : es = commitEntry s .far :: if b = 0x0C then [⟨.far, .feed 96, false, false⟩] else []) :
    (es.length + s.pq.entries.length ≤ 40 → s.pq.pendingBlock = none → s.pq.waitList = [] →
      s.pe.engine ≠ .idle → TakeEnds s
        { farTaken rest s emptyLine with pq := { s.pq with entries := s.pq.entries ++ es } } [])
    ∧ (40 < es.length + s.pq.entries.length ∨ s.pq.pendingBlock ≠ none ∨ s.pq.waitList ≠ [] → TakeEnds s
        { farTaken rest s { emptyLine with waiting := es } with
          pq := { s.pq with waitList := s.pq.waitList ++ [.far] } } []) := by
  have hpos : 0 < es.length := by simp [hes]
  have hcontrol : b.toNat < 0x20 ∧ b ≠ 0x1C := by
    obtain rfl | ⟨rfl, -⟩ := hb <;> decide
  have hclose : takeControl .far b (offered b .none s) = closeTake .far es (offered b .none s) :=
    (takeControl_far_close (s := offered b .none s) hb).trans (by rw [hes]; rfl)
  refine ⟨fun hroom hblock hlist hbusy => ?_, fun hfull => ?_⟩
  · have happend : canAppend es.length s.pq = true := canAppend_of_room hpos (by omega) hblock hlist
    exact .quiet hs (take_control hpaused hrxf hdp hwait (.inl hcontrol.1) hcontrol.2
      (hclose.trans (closeTake_far_append hwait happend hbusy)) rfl) hs.2
  · have hwaits : canAppend es.length s.pq = false :=
      canAppend_eq_false hpos (hfull.imp_left fun h => by omega)
    exact .quiet hs (take_control hpaused hrxf hdp hwait (.inl hcontrol.1) hcontrol.2
      (hclose.trans (closeTake_far_waits hwaits)) rfl) hs.2

/-- A code offered to a FAR line whose entries wait stays in RXF, the parser in OFFER. -/
theorem take_text_waits (hs : Awake s) (hrxf : s.framer.rxf = ⟨b, err⟩ :: rest) (hdp : s.dp = .text)
    (h : b ≠ 0x1C ∨ err ≠ .none) (hwait : s.la.far.waiting ≠ []) :
    TakeEnds s { s with dp := .offer b err true } [] :=
  .quiet hs ((take_offered hrxf hdp h).trans (offerHeld_refused rfl hwait)) hs.2

end TextEntry

end Sys2Proof.Machine

/-! PROOFS: the replies and the argument forms of the directives (O47). -/

namespace Sys2Proof.Machine

/-! ### A formed reply (06 R126) -/

section Reply

variable {s : State} {r : List Byte}

/-- A reply formed outside ONLINE and FADE is discarded (log entry 31). -/
theorem giveReply_discarded (honline : s.link.state ≠ .online) (hfade : s.link.state ≠ .fade) :
    giveReply r s = s := by
  simp [giveReply, txqOpen, honline, hfade]

theorem giveReply_joins (hopen : s.link.state = .online ∨ s.link.state = .fade)
    (hroom : s.framer.data.length + r.length ≤ 158) : giveReply r s = addData r s := by
  simp [giveReply, txqOpen_iff.2 hopen, dataFits_iff.2 hroom]

/-- A reply without room waits, the parser in REPLY WAIT. -/
theorem giveReply_waits (hopen : s.link.state = .online ∨ s.link.state = .fade)
    (hfull : 158 < s.framer.data.length + r.length) : giveReply r s = { s with dp := .replyWait r } := by
  have hno : dataFits r.length s.framer = false := decide_eq_false (Nat.not_le.2 hfull)
  simp [giveReply, txqOpen_iff.2 hopen, hno]

/-- A taken byte that gives a reply: discarded, joined to TXQ, or waiting. -/
theorem take_reply {rest : List RxEntry} (hs : Awake s)
    (htake : takeDirectiveByte s = giveReply r { rxfTaken rest s with dp := .text }) :
    (s.link.state ≠ .online → s.link.state ≠ .fade → TakeEnds s { rxfTaken rest s with dp := .text } [])
    ∧ (s.link.state = .fade ∨ (s.link.state = .online ∧ s.framer.inFlight ≠ none) →
      s.framer.data.length + r.length ≤ 158 →
      TakeEnds s { rxfTaken rest s with
        dp := .text, framer := { (rxfTaken rest s).framer with data := s.framer.data ++ r } } [])
    ∧ (s.link.state = .online ∨ s.link.state = .fade → 158 < s.framer.data.length + r.length →
      TakeEnds s { rxfTaken rest s with dp := .replyWait r } []) := by
  refine ⟨fun honline hfade => ?_, fun hlink hroom => ?_, fun hopen hfull => ?_⟩
  · exact .quiet hs (htake.trans (giveReply_discarded honline hfade)) hs.2
  · have hopen : s.link.state = .online ∨ s.link.state = .fade := hlink.symm.imp_left And.left
    have hwaits : s.link.state ≠ .online ∨ s.framer.inFlight ≠ none :=
      hlink.imp (fun hfade => by simp [hfade]) And.right
    have hjoins := giveReply_joins (s := { rxfTaken rest s with dp := .text }) hopen hroom
    exact .quiet hs (htake.trans (hjoins.trans (addData_waits hwaits))) hs.2
  · exact .quiet hs (htake.trans (giveReply_waits hopen hfull)) hs.2

end Reply

/-! ### The texts of the replies (06 R127 to R129) -/

section ReplyText

variable {s : State}

/-- The engine letter of Table 6-3. -/
theorem engineLetter_eq {e : EngineState} {f : Byte}
    (h : (e, f) ∈ [(EngineState.idle, 0x49#8), (.printing, 0x50), (.feeding, 0x46), (.held, 0x48)]) :
    e.letter = f := by
  simp only [List.mem_cons, Prod.mk.injEq, List.not_mem_nil, or_false] at h
  obtain ⟨rfl, rfl⟩ | ⟨rfl, rfl⟩ | ⟨rfl, rfl⟩ | ⟨rfl, rfl⟩ := h <;> rfl

/-- The form letter of Table 6-3, small under the keyboard lock. -/
theorem formLetter_eq {g : Byte} (h : (s.fu.inst.map FormInst.phase, g) ∈ [((none : Option FormState), 0x43#8),
    (some .closed, 0x43), (some .opened, 0x4F), (some .pending, 0x57), (some .reporting, 0x52)]) :
    formLetter (formState s) (locked s) = if s.tor.nums.getD 32 0 = 1 then g + 0x20 else g := by
  have hletter : formLetter (formState s) false = g := by
    unfold formState
    cases hinst : s.fu.inst with
    | none => simp_all [formLetter]
    | some i => cases hphase : i.phase <;> simp_all [formLetter]
  rw [← hletter]
  simp [formLetter, locked, State.opt, OptionRecord.get]

theorem statusReply_eq {f g : Byte}
    (hengine : (s.pe.engine, f) ∈ [(EngineState.idle, 0x49#8), (.printing, 0x50), (.feeding, 0x46),
      (.held, 0x48)])
    (hform : (s.fu.inst.map FormInst.phase, g) ∈ [((none : Option FormState), 0x43#8), (some .closed, 0x43),
      (some .opened, 0x4F), (some .pending, 0x57), (some .reporting, 0x52)]) :
    statusReply s = [0x1C, 0x71, f] ++ twoDigits s.pq.entries.length
      ++ [if s.tor.nums.getD 32 0 = 1 then g + 0x20 else g] ++ twoDigits s.link.errCount ++ [0x0D] := by
  rw [statusReply, engineLetter_eq hengine, formLetter_eq hform]
  rfl

/-- The number that two bytes write. -/
theorem digitsVal_two (d1 d2 : Byte) : digitsVal [d1, d2] = 10 * digitVal d1 + digitVal d2 := by
  simp [digitsVal]

theorem digitsVal_one (d : Byte) : digitsVal [d] = digitVal d := by
  simp [digitsVal]

/-- Without a form, or a field of that number in its template, the reply to G holds no value. -/
theorem fieldReply_none {d1 d2 : Byte}
    (h : s.fu.inst = none ∨ s.formTemplate.field? (10 * digitVal d1 + digitVal d2) = none) :
    fieldReply [d1, d2] s = [0x1C, 0x6E, d1, d2, 0x0D] := by
  rw [← digitsVal_two] at h
  unfold fieldReply
  split
  · next hinst hfield => simp [hinst, hfield] at h
  · rfl

theorem fieldReply_value {d1 d2 : Byte} {i : FormInst} {f : Field} (hinst : s.fu.inst = some i)
    (hfield : s.formTemplate.field? (10 * digitVal d1 + digitVal d2) = some f) :
    fieldReply [d1, d2] s = [0x1C, 0x67, d1, d2] ++ valueText f.kind (valueOf i.vals f.id) ++ [0x0D] := by
  rw [← digitsVal_two] at hfield
  rw [fieldReply, hinst, hfield]
  rfl

end ReplyText

/-! ### The argument forms (06 R120; Table 6-1) -/

section Forms

variable {b : Byte}

theorem isDigit_iff : isDigit b = true ↔ 0x30 ≤ b.toNat ∧ b.toNat ≤ 0x39 := by
  simp [isDigit]

theorem isDigit_ne_introducer (h : isDigit b = true) : b ≠ introducer := by
  rintro rfl
  exact absurd h (by decide)

/-- The first digit of a field number. -/
theorem fitNumber_first {hi : Nat} {onDone : ArgFit} (h : isDigit b = true) :
    fitNumber hi [] b onDone = .more := by
  simp [fitNumber, h]

/-- The second digit of a field number within its range. -/
theorem fitNumber_second {hi : Nat} {d : Byte} {onDone : ArgFit} (h : isDigit b = true)
    (hlo : 1 ≤ 10 * digitVal d + digitVal b) (hhi : 10 * digitVal d + digitVal b ≤ hi) :
    fitNumber hi [d] b onDone = onDone := by
  have hnumber : digitsVal ([d].take 1 ++ [b]) = 10 * digitVal d + digitVal b := digitsVal_two d b
  simp only [fitNumber, hnumber]
  simp [h, hlo, hhi]

/-- The digit of `n` as an argument. -/
theorem digit_argument {n : Nat} (hn : n ≤ 9) :
    isDigit (byteOf (0x30 + n)) = true ∧ digitVal (byteOf (0x30 + n)) = n := by
  have hnat : (byteOf (0x30 + n)).toNat = 0x30 + n := by
    simp only [byteOf, BitVec.toNat_ofNat]
    omega
  rw [isDigit_iff, digitVal, hnat]
  omega

/-- Behind the field number of V stands text. -/
theorem argFit_v_text {bs : List Byte} (h : 2 ≤ bs.length) : argFit .v bs b = fitText b := by
  rw [argFit, if_neg (Nat.not_lt.2 h)]

theorem fitDigit_done {lo hi : Nat} (h : isDigit b = true) (hlo : lo ≤ digitVal b) (hhi : digitVal b ≤ hi) :
    fitDigit lo hi b = .done :=
  if_pos ⟨h, hlo, hhi⟩

end Forms

end Sys2Proof.Machine

/-! PROOFS: the values of a form, and a field written whole (O47). -/

namespace Sys2Proof.Machine

/-! ### Values looked up by id (09 R169) -/

section Lookup

variable {vals : List FieldVal} {g : FieldVal → FieldVal}

/-- A map that keeps the ids is found under the same id. -/
theorem find?_map_id (hid : ∀ v, (g v).id = v.id) (vals : List FieldVal) (id : Nat) :
    (vals.map g).find? (fun v => v.id == id) = (vals.find? fun v => v.id == id).map g := by
  rw [List.find?_map]
  congr 1
  exact congrArg (fun p => vals.find? p) (funext fun v => by simp [hid])

/-- A value of an id that the map leaves is read as before. -/
theorem valueOf_map {id : Nat} (hid : ∀ v, (g v).id = v.id) (hval : ∀ v, v.id = id → (g v).value = v.value) :
    valueOf (vals.map g) id = valueOf vals id := by
  unfold valueOf
  rw [find?_map_id hid]
  cases hfind : vals.find? fun v => v.id == id with
  | none => rfl
  | some v => exact hval v (by simpa using List.find?_some hfind)

theorem writerOf_map {id : Nat} (hid : ∀ v, (g v).id = v.id)
    (hwriter : ∀ v, v.id = id → (g v).writer = v.writer) : writerOf (vals.map g) id = writerOf vals id := by
  unfold writerOf
  rw [find?_map_id hid]
  cases hfind : vals.find? fun v => v.id == id with
  | none => rfl
  | some v => exact hwriter v (by simpa using List.find?_some hfind)

/-- The field found under an id has that id. -/
theorem Template.field?_self {t : Template} {id : Nat} {f : Field} (h : t.field? id = some f) :
    t.field? f.id = some f := by
  have hid : f.id = id := by simpa using List.find?_some h
  rw [hid]
  exact h

end Lookup

/-! ### A recomputation (09 R179, R180) -/

section Recompute

variable {t : Template} {rate : Int} {i : FormInst}

/-- The value of a field behind the extensions. -/
def extendedValue (t : Template) (vals : List FieldVal) (v : FieldVal) : Value :=
  match (t.field? v.id) with
  | some f => if f.kind = .ext then extension (valueOf vals f.qref) (valueOf vals f.pref) else v.value
  | none => v.value

theorem withExtensions_eq (t : Template) (vals : List FieldVal) :
    withExtensions t vals = vals.map fun v => { v with value := extendedValue t vals v } := by
  refine List.map_congr_left fun v _ => ?_
  cases hfield : t.field? v.id with
  | none => simp only [extendedValue, hfield]
  | some f =>
    simp only [extendedValue, hfield]
    split <;> rfl

/-- The value of a field behind a recomputation. -/
def recomputedValue (t : Template) (rate : Int) (i : FormInst) (v : FieldVal) : Value :=
  match (t.field? v.id).map Field.kind with
  | some .total => (recompute t rate i).total
  | some .tax => (recompute t rate i).tax
  | some .grand => (recompute t rate i).grand
  | _ => extendedValue t i.vals v

/-- A recomputation replaces values and keeps ids and writers. -/
theorem recompute_vals (t : Template) (rate : Int) (i : FormInst) :
    (recompute t rate i).vals = i.vals.map fun v => { v with value := recomputedValue t rate i v } := by
  have hvals : (recompute t rate i).vals = (withExtensions t i.vals).map fun v =>
      match (t.field? v.id).map Field.kind with
      | some .total => { v with value := (recompute t rate i).total }
      | some .tax => { v with value := (recompute t rate i).tax }
      | some .grand => { v with value := (recompute t rate i).grand }
      | _ => v := rfl
  rw [hvals, withExtensions_eq, List.map_map]
  refine List.map_congr_left fun v _ => ?_
  simp only [Function.comp_apply, recomputedValue]
  split <;> rfl

/-- A recomputation leaves an entered field's value. -/
theorem recomputedValue_entered {v : FieldVal} {f : Field} (hfield : t.field? v.id = some f)
    (hentered : f.kind.entered = true) : recomputedValue t rate i v = v.value := by
  have hext : extendedValue t i.vals v = v.value := by
    simp only [extendedValue, hfield]
    refine if_neg fun hkind => ?_
    rw [hkind] at hentered
    exact absurd hentered (by decide)
  rw [recomputedValue, hfield, ← hext]
  cases hkind : f.kind <;> simp [FieldKind.entered, hkind] at hentered ⊢

theorem recompute_ids (t : Template) (rate : Int) (i : FormInst) :
    (recompute t rate i).vals.map FieldVal.id = i.vals.map FieldVal.id := by
  rw [recompute_vals, List.map_map]
  rfl

theorem valueOf_recompute {id : Nat} {f : Field} (hfield : t.field? id = some f)
    (hentered : f.kind.entered = true) : valueOf (recompute t rate i).vals id = valueOf i.vals id := by
  rw [recompute_vals]
  refine valueOf_map (fun _ => rfl) fun v hv => ?_
  subst hv
  exact recomputedValue_entered hfield hentered

theorem writerOf_recompute (id : Nat) : writerOf (recompute t rate i).vals id = writerOf i.vals id := by
  rw [recompute_vals]
  exact writerOf_map (fun _ => rfl) fun _ _ => rfl

end Recompute

/-! ### A value written (09 R177) -/

section Put

variable {i : FormInst} {id : Nat} {x : Value} {w : Origin}

theorem putValue_get {v : FieldVal} (hfind : i.vals.find? (fun v => v.id == id) = some v) :
    (i.putValue id x w).vals.find? (fun v => v.id == id) = some { v with value := x, writer := w } := by
  have hv : v.id = id := by simpa using List.find?_some hfind
  unfold FormInst.putValue
  rw [find?_map_id fun v => by split <;> rfl, hfind]
  simp [hv]

/-- The field written holds the value and its writer. -/
theorem putValue_same (hid : id ∈ i.vals.map FieldVal.id) :
    valueOf (i.putValue id x w).vals id = x ∧ writerOf (i.putValue id x w).vals id = w := by
  obtain ⟨v, hmem, hv⟩ := List.mem_map.1 hid
  have hsome : (i.vals.find? fun v => v.id == id).isSome = true :=
    List.find?_isSome.2 ⟨v, hmem, by simpa using hv⟩
  obtain ⟨u, hfind⟩ := Option.isSome_iff_exists.1 hsome
  simp [valueOf, writerOf, putValue_get hfind]

/-- Every other field stays. -/
theorem putValue_other {id' : Nat} (hne : id' ≠ id) :
    valueOf (i.putValue id x w).vals id' = valueOf i.vals id'
      ∧ writerOf (i.putValue id x w).vals id' = writerOf i.vals id' := by
  have hid : ∀ v : FieldVal, (if v.id = id then { v with value := x, writer := w } else v).id = v.id :=
    fun v => by split <;> rfl
  have hsame : ∀ v : FieldVal, v.id = id' →
      (if v.id = id then { v with value := x, writer := w } else v) = v := fun v hv => if_neg (hv ▸ hne)
  exact ⟨valueOf_map hid fun v hv => by rw [hsame v hv], writerOf_map hid fun v hv => by rw [hsame v hv]⟩

end Put

/-! ### A field of an OPEN form written whole (09 R176, R177) -/

section Write

variable {s : State} {o : Origin} {i : FormInst} {f : Field} {x : Value} {id : Nat} {bs : List Byte}

/-- The form with a field's value replaced, the current field's edit string with it, and the totals computed
again. -/
def fieldStored (s : State) (o : Origin) (f : Field) (x : Value) (i : FormInst) : FormInst :=
  recompute s.formTemplate (s.opt 31) { i.putValue f.id x o with
    edit := if i.current = some f.id then valueText f.kind x else i.edit }

theorem storeField_open (hinst : s.fu.inst = some i) (hopen : i.phase = .opened) :
    storeField o f x i s = raise (.fieldChanged f.id o)
      { s with fu := { s.fu with inst := some (fieldStored s o f x i) } } := by
  have hedit : (if i.current = some f.id then { i.putValue f.id x o with edit := valueText f.kind x }
      else i.putValue f.id x o) = { i.putValue f.id x o with
        edit := if i.current = some f.id then valueText f.kind x else i.edit } := by
    split <;> rfl
  have htemplate : s.formTemplate = templateAt s.fu i.number := by
    rw [State.formTemplate, hinst]
  unfold storeField
  dsimp only
  rw [hedit, fieldStored, htemplate]
  exact congrArg (raise (.fieldChanged f.id o)) (if_pos hopen)

/-- A written value that parses is stored. -/
theorem writeField_stored (hinst : s.fu.inst = some i) (hopen : i.phase = .opened)
    (hfield : s.formTemplate.field? id = some f) (hentered : f.kind.entered = true)
    (hparse : parseWritten f.kind f.width bs = some x) :
    (writeField o id bs s).1 = raise (.fieldChanged f.id o)
      { s with fu := { s.fu with inst := some (fieldStored s o f x i) } } := by
  rw [← storeField_open hinst hopen, writeField, hinst]
  simp [hopen, hfield, hentered, hparse]

/-- Without an OPEN form, a field of that number or a value that parses, a write changes nothing. -/
theorem writeField_ignored (h : (∀ i, s.fu.inst = some i → i.phase ≠ .opened)
    ∨ s.formTemplate.field? id = none ∨ ∃ f, s.formTemplate.field? id = some f
      ∧ (f.kind.entered = false ∨ parseWritten f.kind f.width bs = none)) :
    (writeField o id bs s).1 = s := by
  unfold writeField
  split
  · next i hinst =>
    split
    · rfl
    next hopen =>
    replace h := h.resolve_left fun h => hopen (h i hinst)
    split
    · rfl
    next f hfield =>
    obtain hnone | ⟨g, hg, hbad⟩ := h
    · simp [hnone] at hfield
    obtain rfl : g = f := by simpa [hg] using hfield
    split
    · rfl
    next hentered =>
    obtain hcomputed | hparse := hbad
    · simp [hcomputed] at hentered
    · rw [hparse]
  · rfl

/-- What a stored value leaves of the form: every other entered field, and all but values, totals and edit
string. -/
theorem fieldStored_spec (hfield : s.formTemplate.field? f.id = some f) (hentered : f.kind.entered = true)
    (hid : f.id ∈ i.vals.map FieldVal.id) :
    fieldStored s o f x i = { i with
      vals := (fieldStored s o f x i).vals, total := (fieldStored s o f x i).total
      tax := (fieldStored s o f x i).tax, grand := (fieldStored s o f x i).grand
      edit := if i.current = some f.id then valueText f.kind x else i.edit }
    ∧ valueOf (fieldStored s o f x i).vals f.id = x ∧ writerOf (fieldStored s o f x i).vals f.id = o
    ∧ ∀ g, s.formTemplate.field? g.id = some g → g.kind.entered = true → g.id ≠ f.id →
      valueOf (fieldStored s o f x i).vals g.id = valueOf i.vals g.id
        ∧ writerOf (fieldStored s o f x i).vals g.id = writerOf i.vals g.id := by
  obtain ⟨hvalue, hwriter⟩ := putValue_same (x := x) (w := o) hid
  refine ⟨rfl, (valueOf_recompute hfield hentered).trans hvalue, (writerOf_recompute f.id).trans hwriter,
    fun g hg hgentered hne => ?_⟩
  obtain ⟨hother, hotherWriter⟩ := putValue_other (i := i) (x := x) (w := o) hne
  exact ⟨(valueOf_recompute hg hgentered).trans hother, (writerOf_recompute g.id).trans hotherWriter⟩

end Write

end Sys2Proof.Machine

/-! PROOFS: open, commit and cancel requests of the far end or a key (O47). -/

namespace Sys2Proof.Machine

/-! ### Requests that are told -/

/-- `ends` holds of what an act leaves of `s` as `t`, where that is one notice raised and the port as it
was. -/
def EndsTold (ends : State → List Byte → Prop) (s t : State) : Prop :=
  ∀ n w, t = raise n w → w.raised = s.raised → w.port = s.port → n.bytes.length ≤ 6 → ends w n.bytes

section Requests

variable {s : State} {o : Origin} {i : FormInst} {ends : State → List Byte → Prop}

/-- A refused request of the far end or a key is told by FORM STATE (09 R170). -/
theorem refuseForm_told (ho : o ≠ .ctl) (n : Nat) (c : FormCause) (r : RespCode) :
    (refuseForm o n c r s).1 = raise (.formState (formState s) n c o) s :=
  if_neg ho

theorem formState_inst (hinst : s.fu.inst = some i) : formState s = i.phase := by
  rw [formState, hinst]

theorem formState_none (hinst : s.fu.inst = none) : formState s = .closed := by
  rw [formState, hinst]

/-- A commit request alone leaves a KEY line without a cell, and the list is empty behind it. -/
theorem writeKeyOut_commit (hcells : s.la.key.cells = []) (hwait : s.la.key.waiting = []) :
    writeKeyOut [.commit] s = s.onFu fun fu => { fu with keyOut := [] } := by
  have hrequest : commitRequest .key s = s := if_pos (List.isEmpty_iff.2 hcells)
  have hfree : (s.line .key).waiting.isEmpty = true := List.isEmpty_iff.2 hwait
  simp only [writeKeyOut, hrequest, hfree, if_true]

/-- A commit request that finds the KEY line and its list empty writes nothing (09 R172). -/
theorem giveCommit_quiet (h : KeyLineQuiet s) : giveCommit s = s := by
  obtain ⟨hcells, hwait, hout⟩ := h
  have hempty : giveCommit s = serveKeyOut (s.onFu fun fu => { fu with keyOut := [.commit] }) :=
    if_pos (List.isEmpty_iff.2 hout)
  have hserve : serveKeyOut (s.onFu fun fu => { fu with keyOut := [.commit] })
      = writeKeyOut [.commit] (s.onFu fun fu => { fu with keyOut := [.commit] }) :=
    if_pos (List.isEmpty_iff.2 hwait)
  rw [hempty, hserve, writeKeyOut_commit (by exact hcells) (by exact hwait)]
  simp only [State.onFu, ← hout]

/-- Without a prompt (field 36 = 0) the form unit asks for a commit alone (09 R171). -/
theorem writePrompt_plain (hprompt : s.tor.nums.getD 35 0 = 0) (hquiet : KeyLineQuiet s) :
    writePrompt s = s := by
  have hoff : s.opt 36 ≠ 1 := by
    rw [show s.opt 36 = 0 from hprompt]
    decide
  unfold writePrompt
  split
  · rw [if_neg fun h => hoff h.1, giveCommit_quiet hquiet]
  · rfl

/-! ### Open (09 R171) -/

/-- What a form opened from a template holds. -/
theorem newInstance_spec (t : Template) (n : Nat) (rate : Int) :
    (newInstance t n rate).phase = .opened ∧ (newInstance t n rate).number = n
      ∧ (newInstance t n rate).vals.map FieldVal.id = t.fields.map Field.id
      ∧ (∀ v ∈ (newInstance t n rate).vals, v.writer = .nobody)
      ∧ (∀ f, t.field? f.id = some f → f.kind.entered = true →
          valueOf (newInstance t n rate).vals f.id = f.default.getD .empty)
      ∧ (newInstance t n rate).current
        = (t.fields.find? fun f => f.kind.entered && !f.protect).map Field.id := by
  have hvals : (newInstance t n rate).vals = (recompute t rate
      { phase := .opened, number := n
        vals := t.fields.map fun f => ⟨f.id, f.default.getD .empty, .nobody⟩
        total := .num 0, tax := .num 0, grand := .num 0
        current := none, edit := [], report := [], reportPos := 0 }).vals := rfl
  refine ⟨rfl, rfl, ?_, fun v hv => ?_, fun f hfield hentered => ?_, ?_⟩
  · rw [hvals, recompute_ids, List.map_map]
    rfl
  · rw [hvals, recompute_vals, List.map_map] at hv
    obtain ⟨f, -, rfl⟩ := List.mem_map.1 hv
    rfl
  · rw [hvals, valueOf_recompute hfield hentered]
    have hfind : t.fields.find? ((fun v : FieldVal => v.id == f.id) ∘
        fun f => ⟨f.id, f.default.getD .empty, .nobody⟩) = some f := hfield
    simp only [valueOf, List.find?_map, hfind, Option.map_some]
  · show t.enterable.head?.map Field.id = _
    rw [Template.enterable, List.head?_filter]
    rfl

/-- A far-end or keyed open request, by the form's state and the slot (09 R171). -/
theorem openIsTaken {n : Nat} (ho : o ≠ .ctl) (hends : EndsTold ends s (openForm o n s).1) :
    OpenIsTaken o.byte n s ends := by
  refine ⟨fun i hinst => ?_, fun hinst hslot => ?_, fun t hinst hslot hprompt hquiet => ?_⟩
  · refine hends (.formState i.phase n .refusedState o) s ?_ rfl rfl (Nat.le_refl 6)
    rw [← formState_inst hinst, ← refuseForm_told ho n .refusedState .state]
    simp [openForm, hinst]
  · refine hends (.formState .closed n .refusedAbsent o) s ?_ rfl rfl (Nat.le_refl 6)
    rw [← formState_none hinst, ← refuseForm_told ho n .refusedAbsent .absent]
    rw [openForm, hinst, hslot]
    rfl
  · refine ⟨newInstance t n (s.opt 31), hends (.formState .opened n .opened o) _ ?_ rfl rfl (Nat.le_refl 6),
      newInstance_spec t n (s.opt 31)⟩
    have hopen : (openForm o n s).1 = writePrompt (raiseFormState .opened n .opened o
        (putInst (some (newInstance t n (s.opt 31))) s)) := by
      rw [openForm, hinst, hslot]
      rfl
    rw [hopen, writePrompt_plain (by exact hprompt) (by exact hquiet)]
    rfl

/-! ### Commit (09 R181 to R184) -/

theorem commitForm_refused (ho : o ≠ .ctl) (hinst : s.fu.inst = some i) (hphase : i.phase ≠ .opened) :
    (commitForm o s).1 = raise (.formState i.phase i.number .refusedState o) s := by
  rw [← formState_inst hinst, ← refuseForm_told ho i.number .refusedState .state, commitForm, hinst]
  simp [hphase]

/-- A commit with a failing field is told by FORM REJECTED. -/
theorem commitForm_rejected {f : Field} (ho : o ≠ .ctl) (hinst : s.fu.inst = some i)
    (hopen : i.phase = .opened) (hfails : failingField s.formTemplate i.vals = some f) :
    (commitForm o s).1 = raise (.formRejected f.id o) (rejectCommit f i s) := by
  simp [commitForm, hinst, hopen, hfails, ho]

theorem commitForm_accepted (hinst : s.fu.inst = some i) (hopen : i.phase = .opened)
    (hfails : failingField s.formTemplate i.vals = none) : (commitForm o s).1 = acceptCommit o i s := by
  simp [commitForm, hinst, hopen, hfails]

/-- A failing field that cannot become the current field, or is it. -/
theorem rejectCommit_stays {f : Field}
    (h : f.kind.entered = false ∨ f.protect = true ∨ i.current = some f.id) : rejectCommit f i s = s := by
  refine if_neg fun ⟨henterable, hcurrent⟩ => ?_
  obtain ⟨hentered, hprotect⟩ : f.kind.entered = true ∧ f.protect = false := by
    simpa [Field.enterable] using henterable
  rcases h with h | h | h
  · simp [h] at hentered
  · simp [h] at hprotect
  · exact hcurrent h

/-- An enterable failing field becomes the current field. -/
theorem rejectCommit_moves {f : Field} (hentered : f.kind.entered = true) (hprotect : f.protect = false)
    (hcurrent : i.current ≠ some f.id) (hprompt : s.tor.nums.getD 35 0 = 0) (hquiet : KeyLineQuiet s) :
    rejectCommit f i s = { s with fu := { s.fu with inst := some { i with
      current := some f.id, edit := valueText f.kind (valueOf i.vals f.id) } } } := by
  have hmoves : rejectCommit f i s = writePrompt (putInst (some (i.setCurrent (some f))) s) :=
    if_pos ⟨by simp [Field.enterable, hentered, hprotect], hcurrent⟩
  rw [hmoves, writePrompt_plain (by exact hprompt) (by exact hquiet)]
  rfl

/-- The block of the form as it stands. -/
def committedBlock (s : State) (i : FormInst) : List Entry :=
  formBlock s.formTemplate i.vals (s.opt 19).toNat (s.opt 30).toNat (s.opt 29 = 1)

theorem handOverBlock_append {b : List Entry} (hroom : b.length + s.pq.entries.length ≤ 40)
    (hblock : s.pq.pendingBlock = none) : handOverBlock b s = (appendEntries b s, true) :=
  if_pos ⟨PrintQueue.le_free_of_room (by omega), by rw [hblock]; rfl⟩

theorem handOverBlock_pend {b : List Entry} (hfull : 40 < b.length + s.pq.entries.length)
    (hq : s.pq.entries.length ≤ 40) :
    handOverBlock b s = (s.onPq fun pq => { pq with pendingBlock := some b }, false) :=
  if_neg fun h => PrintQueue.not_le_free (by omega) hq h.1

/-- An accepted commit whose block is appended at once (09 R184). -/
theorem acceptCommit_append (hquiet : KeyLineQuiet s) (hbusy : s.pe.engine ≠ .idle)
    (hroom : (committedBlock s i).length + s.pq.entries.length ≤ 40) (hblock : s.pq.pendingBlock = none) :
    acceptCommit o i s = formAppended o
      { s with pq := { s.pq with entries := s.pq.entries ++ committedBlock s i } } := by
  unfold acceptCommit
  dsimp only
  rw [giveCommit_quiet hquiet, ← committedBlock, handOverBlock_append hroom hblock, appendEntries_busy hbusy]
  rfl

/-- An accepted commit whose block waits for room. -/
theorem acceptCommit_pend (hquiet : KeyLineQuiet s)
    (hfull : 40 < (committedBlock s i).length + s.pq.entries.length) (hq : s.pq.entries.length ≤ 40) :
    acceptCommit o i s = raise (.formState .pending i.number .pending o) { s with
      pq := { s.pq with pendingBlock := some (committedBlock s i) }
      fu := { s.fu with inst := some { i with phase := .pending } } } := by
  unfold acceptCommit
  dsimp only
  rw [giveCommit_quiet hquiet, ← committedBlock, handOverBlock_pend hfull hq]
  rfl

/-- Field 37 = 1 in ONLINE: the report begins (09 R184, R185). -/
theorem formAppended_report (hinst : s.fu.inst = some i) (hfield : s.opt 37 = 1)
    (honline : s.link.state = .online) :
    formAppended o s = raiseFormState .reporting i.number .reporting o (putInst (some { i with
      phase := .reporting, report := reportText s.formTemplate i.number i.vals, reportPos := 0 }) s) := by
  simp [formAppended, hinst, hfield, honline]

/-- Else the form closes. -/
theorem formAppended_closed (hinst : s.fu.inst = some i) (h : s.opt 37 ≠ 1 ∨ s.link.state ≠ .online) :
    formAppended o s = raiseFormState .closed i.number .noReport o (putInst none s) := by
  rw [formAppended, hinst]
  exact if_neg fun ⟨hfield, honline⟩ => h.elim (· hfield) (· honline)

/-- A far-end or keyed commit request, by the form's state, its failing field and the block's room
(09 R181, R184). -/
theorem commitIsTaken (ho : o ≠ .ctl) (hends : EndsTold ends s (commitForm o s).1) :
    CommitIsTaken o.byte s ends := by
  refine ⟨fun hinst => ?_, fun i hinst hphase => ?_, fun i fails hinst hopen hfails => ?_⟩
  · refine hends (.formState .closed 0 .refusedState o) s ?_ rfl rfl (Nat.le_refl 6)
    rw [← formState_none hinst, ← refuseForm_told ho 0 .refusedState .state, commitForm, hinst]
  · exact hends (.formState i.phase i.number .refusedState o) s (commitForm_refused ho hinst hphase) rfl rfl
      (Nat.le_refl 6)
  · obtain rfl : fails = _ := funext hfails
    refine ⟨fun f hfind => ⟨fun hstays => ?_, fun hentered hprotect hcurrent hprompt hquiet => ?_⟩,
      fun block hfind hbusy hquiet hblock => ?_⟩
    · refine hends (.formRejected f.id o) s ?_ rfl rfl (by exact Nat.le_add_right 4 2)
      rw [commitForm_rejected ho hinst hopen hfind, rejectCommit_stays hstays]
    · refine hends (.formRejected f.id o) _ ?_ rfl rfl (by exact Nat.le_add_right 4 2)
      rw [commitForm_rejected ho hinst hopen hfind,
        rejectCommit_moves hentered hprotect hcurrent hprompt hquiet]
    · obtain rfl : block = committedBlock s i := hblock
      have haccept : (commitForm o s).1 = acceptCommit o i s := commitForm_accepted hinst hopen hfind
      refine ⟨fun hroom hnone => ⟨fun hno => ?_, fun hfield honline => ?_⟩, fun hfull hq => ?_⟩
      · refine hends (.formState .closed i.number .noReport o) _ ?_ rfl rfl (Nat.le_refl 6)
        rw [haccept, acceptCommit_append hquiet hbusy hroom hnone,
          formAppended_closed (i := i) (by exact hinst) (by exact hno)]
        rfl
      · refine hends (.formState .reporting i.number .reporting o) _ ?_ rfl rfl (Nat.le_refl 6)
        rw [haccept, acceptCommit_append hquiet hbusy hroom hnone,
          formAppended_report (i := i) (by exact hinst) (by exact hfield) (by exact honline)]
        rfl
      · exact hends (.formState .pending i.number .pending o) _
          (haccept.trans (acceptCommit_pend hquiet hfull hq)) rfl rfl (Nat.le_refl 6)

/-! ### Cancel (09 R187) -/

/-- With an empty wait list the withdrawal of the pending block is all that happens (01 R6). -/
theorem withdrawBlock_alone (hwait : s.pq.waitList = []) :
    withdrawBlock s = { s with pq := { s.pq with pendingBlock := none } } := by
  unfold withdrawBlock
  split
  · next hnone => simp only [← Option.isNone_iff_eq_none.1 hnone]
  · exact serveWaitList_empty rfl hwait

/-- A far-end or keyed cancel request, by the form's state (09 R187). -/
theorem cancelIsTaken (ho : o ≠ .ctl) (hends : EndsTold ends s (cancelForm o s).1) :
    CancelIsTaken o.byte s ends := by
  refine ⟨fun i hinst hphase => ?_, fun i hinst hphase hwait => ?_, fun hinst => ?_,
    fun i hinst hopen hpending => ?_⟩
  · refine hends (.formState .closed 0 .cancelled o) _ ?_ rfl rfl (Nat.le_refl 6)
    rw [cancelForm, formState_inst hinst, hphase]
    rfl
  · refine hends (.formState .closed 0 .cancelled o) _ ?_ rfl rfl (Nat.le_refl 6)
    rw [cancelForm, formState_inst hinst, hphase]
    exact (withdrawBlock_alone (by exact hwait)).trans rfl
  · refine hends (.formState .closed 0 .refusedState o) s ?_ rfl rfl (Nat.le_refl 6)
    rw [cancelForm, formState_none hinst]
    dsimp only
    rw [refuseForm_told ho, formState_none hinst, formNumber, hinst]
  · refine hends (.formState i.phase i.number .refusedState o) s ?_ rfl rfl (Nat.le_refl 6)
    have hrefused : (cancelForm o s).1 = (refuseForm o (formNumber s) .refusedState .state s).1 := by
      rw [cancelForm, formState_inst hinst]
      cases hphase : i.phase <;> simp_all
    rw [hrefused, refuseForm_told ho, formState_inst hinst, formNumber, hinst]

end Requests

end Sys2Proof.Machine

/-! PROOFS: whole directives carried out, and the directive parser's statement (O47). -/

namespace Sys2Proof.Machine

/-! ### A far-end write of field 33 (06 R125; 10 R195) -/

section LockWrite

variable {s : State}

/-- With the store IDLE a far-end write is handed over at once. -/
theorem handOption_idle (w : FarWrite) (hstore : s.store.state = .idle) : handOption w s = farWrite w s := by
  simp [handOption, (storeBusy_eq_false_iff s).2 hstore]

/-- A field outside the far-writable set is refused with SET. -/
theorem farWrite_set {w : FarWrite} (h : s.tor.farWritable w.field = false) :
    farWrite w s = raise (.farWriteRefused w.field .set (w.chars.take 20)) s :=
  if_pos (.inr (by simp [h]))

/-- An empty KQ has no head to examine. -/
theorem examine_empty (h : s.ks.kq = []) : examine s = s := by
  simp [examine, h, examineHead]

/-- K writes its digit to field 33, the keyboard lock, and KQ is examined. -/
theorem farWrite_lock (on : Bool) (hset : s.tor.farSet.getLsbD 32 = true) (hkq : s.ks.kq = []) :
    farWrite ⟨33, [if on then 0x31 else 0x30]⟩ s
      = raise (.optionChanged 33 [0x00, if on then 0x01 else 0x00])
        { s with tor := { s.tor with nums := s.tor.nums.set 32 (if on then 1 else 0) } } := by
  have hwritable : s.tor.farWritable 33 = true := hset
  have hrange : bringIntoRange 33 (signedDigits [if on then 0x31 else 0x30]) = some (if on then 1 else 0) := by
    cases on <;> decide
  have hbytes : bytes16 (if on then 1 else 0) = [0x00, if on then 0x01 else 0x00] := by
    cases on <;> decide
  have hstored (x : Int) : storeNumber 33 x s = { s with tor := { s.tor with nums := s.tor.nums.set 32 x } } :=
    examine_empty hkq
  simp only [farWrite, hwritable, hrange, rateFrozen, hstored, hbytes]
  rfl

end LockWrite

section Directives

variable {s : State} {b : Byte} {rest : List RxEntry} {d : Directive}

/-! ### Requests to the form unit -/

/-- A taken byte whose directive is a request that is told. -/
theorem take_told {t : State} (hs : Awake s) (htake : takeDirectiveByte s = t) :
    EndsTold (TakeEnds s) { rxfTaken rest s with dp := .text } t :=
  fun _ _ hraise hraised hport hsize =>
    .told hs (htake.trans hraise) (hraised.trans hs.2) hport (by omega)

/-- F with its digit opens a form. -/
theorem take_openForm {n : Nat} (hpaused : s.framer.paused = false)
    (hrxf : s.framer.rxf = ⟨byteOf (0x30 + n), .none⟩ :: rest) (hdp : s.dp = .args .f []) (hlo : 1 ≤ n)
    (hhi : n ≤ 8) : takeDirectiveByte s = (openForm .far n { rxfTaken rest s with dp := .text }).1 := by
  obtain ⟨hdigit, hval⟩ := digit_argument (n := n) (by omega)
  have hfit : argFit .f [] (byteOf (0x30 + n)) = .done :=
    fitDigit_done hdigit (by omega) (by omega)
  have hnumber : digitsVal ([] ++ [byteOf (0x30 + n)]) = n := (digitsVal_one _).trans hval
  rw [take_lastArgument hpaused hrxf hdp (isDigit_ne_introducer hdigit) (by decide) hfit, carryOut, hnumber]

/-- V with its ";" writes a field. -/
theorem take_writeField {d1 d2 : Byte} {cs : List Byte} (hpaused : s.framer.paused = false)
    (hrxf : s.framer.rxf = ⟨0x3B, .none⟩ :: rest) (hdp : s.dp = .args .v (d1 :: d2 :: cs))
    (hlen : cs.length ≤ 35) : takeDirectiveByte s
      = (writeField .far (10 * digitVal d1 + digitVal d2) cs { rxfTaken rest s with dp := .text }).1 := by
  have hshort : (d1 :: d2 :: cs).length < 38 := by
    simp only [List.length_cons]
    omega
  have htwo : 2 ≤ (d1 :: d2 :: cs).length := by
    simp only [List.length_cons]
    omega
  have hfit : argFit .v (d1 :: d2 :: cs) 0x3B = .done := (argFit_v_text htwo).trans (if_pos rfl)
  have hnumber : fieldNumber (d1 :: d2 :: cs ++ [0x3B]) = 10 * digitVal d1 + digitVal d2 := digitsVal_two d1 d2
  have htext : ((d1 :: d2 :: cs ++ [0x3B]).drop 2).dropLast = cs := by simp
  rw [take_lastArgument hpaused hrxf hdp (by decide) hshort hfit, carryOut, hnumber, htext]

/-! ### U and W: a code for the FAR line (06 R118, R124) -/

/-- The code that a directive offers to the FAR line: taken, or kept in OFFER while entries wait. -/
theorem take_lineCode {code : Byte} {l : OpenLine} (hs : Awake s)
    (htake : takeDirectiveByte s = offerAttribute code { rxfTaken rest s with dp := .text })
    (hcode : code.toNat < 0x20)
    (hline : ∀ t : State, t.la = s.la → takeControl .far code t = .taken (t.putLine .far l)) :
    (s.la.far.waiting = [] → TakeEnds s (farTaken rest s l) [])
    ∧ (s.la.far.waiting ≠ [] → TakeEnds s { rxfTaken rest s with dp := .offer code .none false } []) := by
  refine ⟨fun hwait => ?_, fun hwait => ?_⟩
  · have hoffer := offerCode_far_control (s := { rxfTaken rest s with dp := .offer code .none false })
      hwait (.inl hcode) (hline _ rfl)
    exact .quiet hs (htake.trans (offerHeld_directive rfl hoffer)) hs.2
  · exact .quiet hs (htake.trans (offerHeld_refused (b := code) (err := .none) rfl hwait)) hs.2

/-- U, W and K with their digit. -/
theorem take_switch {on : Bool} (hpaused : s.framer.paused = false)
    (hrxf : s.framer.rxf = ⟨if on then 0x31 else 0x30, .none⟩ :: rest) (hdp : s.dp = .args d [])
    (hd : d = .u ∨ d = .w ∨ d = .k) :
    takeDirectiveByte s
      = carryOut d [if on then 0x31 else 0x30] { rxfTaken rest s with dp := .text } := by
  have hform : argFit d [] (if on then 0x31 else 0x30) = fitDigit 0 1 (if on then 0x31 else 0x30) := by
    obtain rfl | rfl | rfl := hd <;> rfl
  have hdone : fitDigit 0 1 (if on then 0x31 else 0x30) = .done := by cases on <;> decide
  have hne : (if on then 0x31 else 0x30 : Byte) ≠ introducer := by cases on <;> decide
  exact take_lastArgument hpaused hrxf hdp hne (by decide) (hform.trans hdone)

/-! ### A commit of the FAR line, and the replies -/

/-- L closes a FAR line that holds a cell. -/
theorem commitRequest_far_append (hcells : s.la.far.cells ≠ []) (hroom : s.pq.entries.length ≤ 39)
    (hblock : s.pq.pendingBlock = none) (hlist : s.pq.waitList = []) (hbusy : s.pe.engine ≠ .idle) :
    commitRequest .far s = { s with
      la := { s.la with farHoldMs := 0, far := { emptyLine with waiting := s.la.far.waiting } }
      pq := { s.pq with entries := s.pq.entries ++ [commitEntry s .far] } } := by
  rw [commitRequest_append (nm := .far) hcells
    (canAppend_of_room Nat.one_pos (by omega) hblock hlist),
    appendEntries_busy (by exact hbusy), clearLine_far]
  rfl

/-- G with its number gives the field's reply. -/
theorem take_fieldReply {d1 : Byte} (hpaused : s.framer.paused = false)
    (hrxf : s.framer.rxf = ⟨b, .none⟩ :: rest) (hdp : s.dp = .args .g [d1]) (hdigit : isDigit b = true)
    (hlo : 1 ≤ 10 * digitVal d1 + digitVal b) (hhi : 10 * digitVal d1 + digitVal b ≤ 16) :
    takeDirectiveByte s = giveReply (fieldReply [d1, b] { rxfTaken rest s with dp := .text })
      { rxfTaken rest s with dp := .text } :=
  take_lastArgument hpaused hrxf hdp (isDigit_ne_introducer hdigit) (by simp)
    (fitNumber_second hdigit hlo hhi)

end Directives

/-- Settles O47: parser state by parser state, each whole directive by the lemma of what carries it out. -/
theorem directiveParserTakesOneEntry : Obligations.DirectiveParserTakesOneEntry := by
  refine ⟨fun s hs => ⟨fun h => event_idle hs (takeDirectiveByte_idle h), fun h => ?_, fun hintro hargs =>
    event_idle hs (directiveTimedOut_idle hintro hargs)⟩, ?_⟩
  · have hends := directiveTimedOut_ends h
    exact (event_quiet hs (by rw [hends]; exact hs.2)).trans (by rw [hends])
  intro s u b err rest hs hpaused hrxf hu v ends far hv hends hfar
  obtain rfl : u = rxfTaken rest s := hu
  subst hv
  obtain rfl : ends = TakeEnds s := funext fun w => funext fun bytes => propext (hends w bytes)
  obtain rfl : far = farTaken rest s := funext hfar
  refine ⟨fun hdp => ⟨fun hb herr => ?_, fun h hwait => take_text_waits hs hrxf hdp h hwait,
    fun hcode hline => take_printable hs hpaused hrxf hdp hline hcode, ?_⟩, fun hdp => ⟨fun herr => ?_, ?_⟩,
    ?_, ?_, ?_, ?_, ?_⟩
  -- TEXT: an introducer, and the control codes of a FAR line without waiting entries (R117, 01 R14).
  · exact .quiet hs (take_introducer hpaused hrxf hdp hb herr) hs.2
  · rintro rfl hwait _ font _ rfl hfont rfl
    refine ⟨?_, ?_, ?_, ?_, ?_, ?_, fun hb hother => ?_, fun hb es hes =>
      take_close hs hpaused hrxf hdp hwait hb (by rw [hes, hfont, commitEntry_far])⟩
    · rintro rfl
      exact take_bell hs hpaused hrxf hdp hwait
    · rintro rfl
      exact take_control_line hs hpaused hrxf hdp hwait (.inl (by decide)) (by decide) rfl
    · rintro rfl tab htab
      exact take_control_line hs hpaused hrxf hdp hwait (.inl (by decide)) (by decide)
        (takeControl_far_tab (s := offered 0x09 .none s) hfont htab)
    · rintro rfl
      exact take_control_line hs hpaused hrxf hdp hwait (.inl (by decide)) (by decide) rfl
    · rintro (rfl | rfl) <;>
        exact take_control_line hs hpaused hrxf hdp hwait (.inl (by decide)) (by decide) rfl
    · rintro (rfl | rfl) <;>
        exact take_control_line hs hpaused hrxf hdp hwait (.inl (by decide)) (by decide) rfl
    · have hcontrol : b.toNat < 0x20 ∨ b.toNat = 0x7F := hb.imp_right fun h => by rw [h]; rfl
      obtain ⟨hne, hnone⟩ := not_or.1 (mt List.mem_cons.2 hother)
      exact take_control_line hs hpaused hrxf hdp hwait hcontrol hne (takeControl_far_other hnone)
  -- INTRO and ARGS: an error, and an introducer again (R121).
  · exact exec_take_quiet hs (take_error hpaused hrxf hdp herr) hs.2
  · rintro rfl hb
    exact exec_take_quiet hs (take_restart hpaused hrxf hdp hb) hs.2
  -- INTRO: the letters without a reply (R119, R124).
  · rintro hdp rfl
    refine ⟨fun hb => ?_, ?_, ?_, ?_, ?_, ?_, ?_⟩
    · obtain ⟨hne, hnone⟩ := not_or.1 (mt List.mem_cons.2 hb)
      exact exec_take_quiet hs (take_noLetter hpaused hrxf hdp hne (Directive.ofByte?_eq_none hnone)) hs.2
    · rintro rfl
      exact exec_take_quiet hs (take_openingLetter hpaused hrxf hdp rfl rfl) hs.2
    · rintro rfl
      exact exec_take_quiet hs (take_openingLetter hpaused hrxf hdp rfl rfl) hs.2
    · rintro x d hmem rfl
      obtain ⟨hletter, hbare⟩ := openingLetter_of_mem hmem
      exact .quiet hs (take_openingLetter hpaused hrxf hdp hletter hbare) hs.2
    · rintro rfl
      exact commitIsTaken (o := .far) (by decide) (take_told hs (take_bareLetter hpaused hrxf hdp rfl rfl))
    · rintro rfl
      exact cancelIsTaken (o := .far) (by decide) (take_told hs (take_bareLetter hpaused hrxf hdp rfl rfl))
    · rintro rfl
      have htake := take_bareLetter hpaused hrxf hdp (d := .l) rfl rfl
      refine ⟨fun hcells => .quiet hs (htake.trans (if_pos (List.isEmpty_iff.2 hcells))) hs.2,
        fun hcells hroom hblock hlist hbusy => .quiet hs (htake.trans ?_) hs.2⟩
      exact commitRequest_far_append (s := { rxfTaken rest s with dp := .text }) hcells hroom hblock hlist hbusy
  -- The replies to Q, A and G (R126 to R129).
  · intro replies hreplies
    refine ⟨?_, ?_, ?_⟩
    · rintro hdp rfl rfl f hengine g hform
      rw [hreplies, ← statusReply_eq hengine hform]
      exact take_reply hs (take_bareLetter hpaused hrxf hdp (d := .q) rfl rfl)
    · rintro hdp rfl rfl
      rw [hreplies]
      exact take_reply hs (take_bareLetter hpaused hrxf hdp (d := .a) rfl rfl)
    · rintro d1 _ hdp rfl - hdigit rfl hlo hhi
      have htake := take_reply hs (take_fieldReply hpaused hrxf hdp hdigit hlo hhi)
      refine ⟨fun hnone => ?_, fun i f hinst hfield => ?_⟩
      · rw [fieldReply_none (by exact hnone)] at htake
        exact (hreplies _).2 htake
      · rw [fieldReply_value (i := i) (f := f) (by exact hinst) (by exact hfield)] at htake
        exact (hreplies _).2 htake
  -- The last argument of F, of U, W and K, and of V (R120, R124, R125).
  · rintro rfl
    refine ⟨?_, ?_, ?_⟩
    · rintro hdp n hlo hhi rfl
      exact openIsTaken (o := .far) (by decide) (take_told hs (take_openForm hpaused hrxf hdp hlo hhi))
    · rintro on rfl
      refine ⟨fun hdp => ?_, fun hdp => ?_, fun hdp hstore => ?_⟩
      · have htake := take_switch hpaused hrxf hdp (.inl rfl)
        cases on <;> exact take_lineCode hs htake (by decide) fun t ht => by rw [← ht]; rfl
      · have htake := take_switch hpaused hrxf hdp (.inr (.inl rfl))
        cases on <;> exact take_lineCode hs htake (by decide) fun t ht => by rw [← ht]; rfl
      · have htake := (take_switch hpaused hrxf hdp (.inr (.inr rfl))).trans
          (handOption_idle ⟨33, [if on then 0x31 else 0x30]⟩ hstore)
        refine ⟨fun hset => ?_, fun hset hkq => ?_⟩
        · exact .told hs (htake.trans (farWrite_set hset)) hs.2 rfl (by cases on <;> decide)
        · exact .told hs (htake.trans (farWrite_lock on hset hkq)) hs.2 rfl (by cases on <;> decide)
    · rintro d1 d2 cs _ hdp rfl hlen rfl
      have htake := take_writeField hpaused hrxf hdp hlen
      refine ⟨fun hclosed => .quiet hs (htake.trans (writeField_ignored (.inl hclosed))) hs.2,
        fun i hinst hopen => ⟨fun hnone =>
          .quiet hs (htake.trans (writeField_ignored (.inr (.inl hnone)))) hs.2, fun f hfield => ⟨fun hbad =>
          .quiet hs (htake.trans (writeField_ignored (.inr (.inr ⟨f, hfield, hbad⟩)))) hs.2, ?_⟩⟩⟩
      intro x hentered hparse hid _
      refine ⟨fieldStored { rxfTaken rest s with dp := .text } .far f x i, ?_,
        fieldStored_spec (by exact Template.field?_self hfield) hentered hid⟩
      exact .told hs (htake.trans (writeField_stored (by exact hinst) hopen (by exact hfield) hentered hparse))
        hs.2 rfl (Nat.le_add_left 4 34)
  -- ARGS: the 41st byte, and the first digit of O (R120, R122).
  · rintro d bs hdp rfl hb hlong
    exact exec_take_quiet hs (take_overlong hpaused hrxf hdp hb hlong) hs.2
  · rintro _ hdp rfl rfl hdigit
    exact exec_take_quiet hs (take_moreArgument hpaused hrxf hdp (isDigit_ne_introducer hdigit) (by decide)
      (fitNumber_first hdigit)) hs.2

end Sys2Proof.Machine

/-! PROOFS: the scanner's keys, and what one reading makes of a key (07 R136 to R146). -/

namespace Sys2Proof.Machine

/-! ### One key of the scanner -/

section Keys

variable {ks : KeyScanner} {j k : Nat} {q : KeyState}

theorem KeyScanner.key_putKey_same (hk : k < ks.keys.length) : (ks.putKey k q).key k = q := by
  simp [KeyScanner.key, KeyScanner.putKey, hk]

theorem KeyScanner.key_putKey_other (h : j ≠ k) : (ks.putKey k q).key j = ks.key j := by
  simp [KeyScanner.key, KeyScanner.putKey, List.getD_eq_getElem?_getD, List.getElem?_set_ne h.symm]

@[simp] theorem KeyScanner.putKey_key (ks : KeyScanner) (k : Nat) : ks.putKey k (ks.key k) = ks := by
  have hkeys : ks.keys.set k (ks.key k) = ks.keys := by
    by_cases hk : k < ks.keys.length
    · simp [KeyScanner.key, hk]
    · exact List.set_eq_of_length_le (Nat.not_lt.1 hk)
  simp [KeyScanner.putKey, hkeys]

theorem KeyScanner.isDown_iff :
    ks.isDown k = true ↔ (ks.key k).deb = .down ∨ ∃ n, (ks.key k).deb = .breakPending n := by
  unfold KeyScanner.isDown
  split <;> simp_all

/-- The modifier state as a function of the keys' modifier kinds alone. -/
theorem modState_eq (ks : KeyScanner) : modState ks =
    let kinds := ks.keys.map KeyState.modKind
    ⟨kinds.any (· = some .shift), kinds.any (· = some .ctrl), kinds.any (· = some .func)⟩ := by
  simp [modState, List.any_map, Function.comp_def]

/-- A debounce state gives and takes no modifier (07 R142). -/
@[simp] theorem modState_setDeb (ks : KeyScanner) (k : Nat) (d : Debounce) :
    modState (ks.setDeb k d) = modState ks := by
  have hkinds : (ks.setDeb k d).keys.map KeyState.modKind = ks.keys.map KeyState.modKind := by
    conv => rhs; rw [← KeyScanner.putKey_key ks k]
    simp only [KeyScanner.setDeb, KeyScanner.putKey, List.map_set]
  rw [modState_eq, modState_eq, hkinds]

/-- The rectangle of R138 about the key of row `r` and column `c`. -/
theorem ghost_iff {r c : Nat} (hc : c < 10) : ghost ks (10 * r + c) = true ↔
    ∃ r' c', r' < 8 ∧ c' < 10 ∧ r' ≠ r ∧ c' ≠ c ∧ ∀ j ∈ [10 * r + c', 10 * r' + c', 10 * r' + c],
      (ks.key j).deb = .down ∨ ∃ n, (ks.key j).deb = .breakPending n := by
  have hrow : (10 * r + c) / 10 = r := by omega
  have hcol : (10 * r + c) % 10 = c := by omega
  simp only [ghost, hrow, hcol, List.any_eq_true, List.mem_range, Bool.and_eq_true, bne_iff_ne,
    KeyScanner.isDown_iff, List.forall_mem_cons, List.not_mem_nil, false_imp_iff, implies_true, and_true]
  constructor
  · rintro ⟨r', hr', c', hc', ⟨⟨⟨hr, hc⟩, h1⟩, h2⟩, h3⟩
    exact ⟨r', c', hr', hc', hr, hc, h1, h2, h3⟩
  · rintro ⟨r', c', hr', hc', hr, hc, h1, h2, h3⟩
    exact ⟨r', hr', c', hc', ⟨⟨⟨hr, hc⟩, h1⟩, h2⟩, h3⟩

end Keys

/-! ### KQ and the typematic timer (07 R144 to R146) -/

section Events

variable {s : State} {k : Nat} {kind : KeyKind}

theorem enqueue_room (h : s.ks.kq.length < 16) :
    enqueue k kind s = s.onKs fun ks => { ks with kq := ks.kq ++ [⟨k, kind, modState ks⟩] } :=
  if_pos h

/-- An event that meets a full KQ is lost, and told where it is the first lost (07 R144). -/
theorem enqueue_full (h : 16 ≤ s.ks.kq.length) : enqueue k kind s = { s with
    raised := s.raised ++ if s.ks.kqOverrun then [] else [.keyOverrun k kind]
    ks := { s.ks with kqOverrun := true } } := by
  unfold enqueue
  rw [if_neg (by simpa [Config.kqCapacity] using h)]
  split
  · next hover => rw [List.append_nil, ← hover]
  · rfl

theorem enqueue_ks_keys (k : Nat) (kind : KeyKind) (s : State) : (enqueue k kind s).ks.keys = s.ks.keys := by
  unfold enqueue
  split
  · rfl
  · split <;> rfl

theorem enqueue_ks_due (k : Nat) (kind : KeyKind) (s : State) : (enqueue k kind s).ks.due = s.ks.due := by
  unfold enqueue
  split
  · rfl
  · split <;> rfl

/-- The newest entry of the down list is the timer's subject if it repeats (07 R145). -/
theorem startTypematic_newest {ks : KeyScanner} {l : List DownKey} {d : DownKey} {delay : Int}
    (h : ks.downList = l ++ [d]) : startTypematic delay ks = { ks with
      due := false, typematic := if d.rep then some ⟨d.key, true, delay⟩ else none } := by
  simp [startTypematic, h]

/-- An event and a start of the timer do not meddle with each other. -/
theorem enqueue_startTypematic (delay : Int) : (enqueue k kind s).onKs (startTypematic delay)
    = enqueue k kind (s.onKs (startTypematic delay)) := by
  obtain h | h := Nat.lt_or_ge s.ks.kq.length 16
  · rw [enqueue_room h, enqueue_room (by exact h)]
    rfl
  · rw [enqueue_full h, enqueue_full (by exact h)]
    rfl

variable {r : Nat} {closed : BitVec 10}

theorem typematicTest_notDue (h : s.ks.due = false) : typematicTest r closed s = s := by
  unfold typematicTest
  split <;> simp [h]

theorem typematicTest_notDown {ty : Typematic} (hty : s.ks.typematic = some ty)
    (hdeb : (s.ks.key ty.key).deb ≠ .down) : typematicTest r closed s = s := by
  simp [typematicTest, hty, hdeb]

/-- The due subject, of the row scanned, read closed and down, repeats (07 R146). -/
theorem typematicTest_repeats {ty : Typematic} (hty : s.ks.typematic = some ty) (hdue : s.ks.due = true)
    (hrow : ty.key / 10 = r) (hdeb : (s.ks.key ty.key).deb = .down)
    (hclosed : closed.getLsbD (ty.key % 10) = true) :
    typematicTest r closed s = enqueue ty.key .repeated (s.onKs fun ks => { ks with due := false }) := by
  simp [typematicTest, hty, hdue, hrow, hdeb, hclosed]

theorem typematicRunsOut_idle (h : s.ks.typematic = none) : typematicRunsOut s = s := by
  simp [typematicRunsOut, h]

theorem typematicRunsOut_running {ty : Typematic} (h : s.ks.typematic = some ty) :
    typematicRunsOut s = { s with ks := { s.ks with
      due := true, typematic := some { ty with inDelay := false, timeUs := typematicPeriod s } } } := by
  simp [typematicRunsOut, h, State.onKs]

/-- `roundDiv a b` is the whole number nearest to a / b, a half rounded up. -/
theorem roundDiv_bounds {a b : Int} (hb : 0 < b) :
    2 * b * roundDiv a b ≤ 2 * a + b ∧ 2 * a + b < 2 * b * (roundDiv a b + 1) := by
  have hpos : 0 < 2 * b := by omega
  exact ⟨Int.mul_ediv_self_le (by omega), by
    rw [Int.mul_add, Int.mul_one]; exact Int.lt_mul_ediv_self_add hpos⟩

end Events

/-! ### The third reading: a make or a break (07 R137, R140) -/

section Makes

variable {s : State} {k n : Nat}

theorem takeReading_thirdClosed (hdeb : (s.ks.key k).deb = .makePending n) (hn : 2 ≤ n) :
    takeReading k true s = testMake k s := by
  simp [takeReading, hdeb, show ¬n ≤ 1 by omega]

theorem takeReading_thirdOpen (hdeb : (s.ks.key k).deb = .breakPending n) (hn : 2 ≤ n) :
    takeReading k false s = acceptBreak k s := by
  simp [takeReading, hdeb, show ¬n ≤ 1 by omega]

theorem testMake_ghost (h : ghost s.ks k = true) :
    testMake k s = s.onKs fun ks => ks.setDeb k (.makePending 3) :=
  if_pos h

theorem testMake_modifier {m : ModKind} (hghost : ghost s.ks k = false)
    (hmod : (s.kr.entry .base k).modifier = some m) :
    testMake k s = s.onKs fun ks => ks.putKey k { ks.key k with deb := .down, modKind := some m } := by
  simp [testMake, hghost, hmod]

theorem testMake_plain (hghost : ghost s.ks k = false) (hmod : (s.kr.entry .base k).modifier = none) :
    testMake k s = if 6 ≤ s.ks.downList.length then s.onKs fun ks => ks.setDeb k (.makePending 3)
      else acceptMake k s := by
  unfold testMake
  rw [if_neg (by simp [hghost]), hmod]
  rfl

theorem KeyEntry.modifier_eq_none {e : KeyEntry} (hshift : e.kind ≠ .action .shift)
    (hctrl : e.kind ≠ .action .ctrl) (hfunc : e.kind ≠ .action .func) : e.modifier = none := by
  unfold KeyEntry.modifier
  split <;> simp_all

theorem KeyEntry.modifier_of_action {e : KeyEntry} {m : ModKind}
    (h : e.kind = .action (match m with | .shift => .shift | .ctrl => .ctrl | .func => .func)) :
    e.modifier = some m := by
  cases m <;> simp [KeyEntry.modifier, h]

/-- The scanner behind an accepted make, before its event: the key is DOWN and last in the down list, and the
timer follows it (07 R141, R145). -/
def madeDown (s : State) (k : Nat) : KeyScanner :=
  let rep := (s.kr.entry (modState s.ks).layer k).rep
  { s.ks.setDeb k .down with
    downList := s.ks.downList ++ [⟨k, rep⟩]
    typematic := if rep then some ⟨k, true, typematicDelay s⟩ else none }

theorem acceptMake_eq (hdue : s.ks.due = false) :
    acceptMake k s = enqueue k .make (s.onKs fun _ => madeDown s k) := by
  unfold acceptMake
  dsimp only
  rw [enqueue_startTypematic, State.onKs, startTypematic_newest rfl, ← hdue]
  rfl

/-- A break takes the key out of the down list and off its modifier; the timer may start or stop. -/
theorem acceptBreak_eq (hdue : s.ks.due = false) : ∃ ty, acceptBreak k s = s.onKs fun ks =>
    { ks.putKey k { ks.key k with deb := .up, modKind := none } with
      downList := ks.downList.filter fun d => d.key ≠ k
      typematic := ty } := by
  unfold acceptBreak
  dsimp only
  split
  · exact ⟨_, by rw [State.onKs, State.onKs, State.onKs, startTypematic, ← hdue]; rfl⟩
  · exact ⟨s.ks.typematic, rfl⟩

end Makes

/-! ### A reading that is tested no further (Table 7-1) -/

/-- A key behind a reading that is neither a make to be tested nor a break (Table 7-1). -/
def plainReading (q : KeyState) (closed : Bool) : KeyState :=
  match q.deb, closed with
  | .up, true => if q.releaseRequired then q else { q with deb := .makePending 1 }
  | .up, false => { q with releaseRequired := false }
  | .makePending _, true => { q with deb := .makePending 2 }
  | .makePending _, false => { q with deb := .up }
  | .down, true => q
  | .down, false => { q with deb := .breakPending 1 }
  | .breakPending _, true => { q with deb := .down }
  | .breakPending _, false => { q with deb := .breakPending 2 }

/-- The reading is no third one: a count of two or more ends with it. -/
def NotThird (q : KeyState) (closed : Bool) : Prop :=
  ∀ n, 2 ≤ n → (q.deb = .makePending n → closed = false) ∧ (q.deb = .breakPending n → closed = true)

section Plain

variable {s : State} {k : Nat} {closed : Bool}

theorem NotThird.count_le_of_make {q : KeyState} {n : Nat} (h : NotThird q true)
    (hdeb : q.deb = .makePending n) : n ≤ 1 :=
  Nat.le_of_not_lt fun hn => Bool.noConfusion ((h n hn).1 hdeb)

theorem NotThird.count_le_of_break {q : KeyState} {n : Nat} (h : NotThird q false)
    (hdeb : q.deb = .breakPending n) : n ≤ 1 :=
  Nat.le_of_not_lt fun hn => Bool.noConfusion ((h n hn).2 hdeb)

/-- Such a reading changes its key alone. -/
theorem takeReading_plain (h : NotThird (s.ks.key k) closed) : takeReading k closed s
    = s.onKs fun ks => ks.putKey k (plainReading (ks.key k) closed) := by
  have hself : s.ks.putKey k (s.ks.key k) = s.ks := KeyScanner.putKey_key s.ks k
  cases hdeb : (s.ks.key k).deb with
  | up =>
    cases closed with
    | false => simp only [takeReading, plainReading, hdeb, State.onKs]
    | true =>
      simp only [takeReading, plainReading, hdeb, State.onKs]
      split
      · rw [hself]
      · rfl
  | makePending n =>
    cases closed with
    | false => simp only [takeReading, plainReading, hdeb, State.onKs, KeyScanner.setDeb]
    | true =>
      have hn : n ≤ 1 := h.count_le_of_make hdeb
      simp only [takeReading, plainReading, hdeb, hn, ↓reduceIte, State.onKs, KeyScanner.setDeb]
  | down =>
    cases closed with
    | false => simp only [takeReading, plainReading, hdeb, State.onKs, KeyScanner.setDeb]
    | true => simp only [takeReading, plainReading, hdeb, State.onKs, hself]
  | breakPending n =>
    cases closed with
    | false =>
      have hn : n ≤ 1 := h.count_le_of_break hdeb
      simp only [takeReading, plainReading, hdeb, hn, ↓reduceIte, State.onKs, KeyScanner.setDeb]
    | true => simp only [takeReading, plainReading, hdeb, State.onKs, KeyScanner.setDeb]

/-- A key that is up and reads open, or is down and reads closed. -/
def RestsAt (q : KeyState) (closed : Bool) : Prop :=
  (q.deb = .up ∧ q.releaseRequired = false ∧ closed = false) ∨ (q.deb = .down ∧ closed = true)

theorem RestsAt.notThird {q : KeyState} (h : RestsAt q closed) : NotThird q closed := by
  obtain ⟨hdeb, -, -⟩ | ⟨hdeb, -⟩ := h <;> simp [NotThird, hdeb]

theorem RestsAt.plainReading_eq {q : KeyState} (h : RestsAt q closed) : plainReading q closed = q := by
  obtain ⟨deb, release, kind⟩ := q
  obtain ⟨rfl, rfl, rfl⟩ | ⟨rfl, rfl⟩ := h <;> rfl

theorem takeReading_rests (h : RestsAt (s.ks.key k) closed) : takeReading k closed s = s := by
  rw [takeReading_plain h.notThird, State.onKs, h.plainReading_eq, KeyScanner.putKey_key]

/-- A key that is down and reads closed is DOWN behind it. -/
theorem takeReading_heldClosed
    (h : (s.ks.key k).deb = .down ∨ ∃ n, (s.ks.key k).deb = .breakPending n) :
    takeReading k true s = s.onKs fun ks => ks.setDeb k .down := by
  have hread : NotThird (s.ks.key k) true
      ∧ plainReading (s.ks.key k) true = { s.ks.key k with deb := .down } := by
    generalize s.ks.key k = q at h
    obtain ⟨deb, release, kind⟩ := q
    obtain rfl | ⟨n, rfl⟩ := h <;> simp [NotThird, plainReading]
  rw [takeReading_plain hread.1, State.onKs, hread.2]
  rfl

/-- A key that is DOWN and reads open awaits its break. -/
theorem takeReading_opens (h : (s.ks.key k).deb = .down) :
    takeReading k false s = s.onKs fun ks => ks.setDeb k (.breakPending 1) := by
  simp [takeReading, h]

/-! ### A reading of a key leaves the other keys (07 R135) -/

theorem testMake_keys (k : Nat) (s : State) : ∃ q, (testMake k s).ks.keys = s.ks.keys.set k q := by
  unfold testMake
  split
  · exact ⟨_, rfl⟩
  · split
    · exact ⟨_, rfl⟩
    · split
      · exact ⟨_, rfl⟩
      · exact ⟨_, enqueue_ks_keys k .make _⟩

theorem acceptBreak_keys (k : Nat) (s : State) : ∃ q, (acceptBreak k s).ks.keys = s.ks.keys.set k q := by
  unfold acceptBreak
  dsimp only
  split <;> exact ⟨_, rfl⟩

theorem takeReading_keys (k : Nat) (closed : Bool) (s : State) :
    ∃ q, (takeReading k closed s).ks.keys = s.ks.keys.set k q := by
  have hself : ∃ q, s.ks.keys = s.ks.keys.set k q :=
    ⟨s.ks.key k, (congrArg KeyScanner.keys (KeyScanner.putKey_key s.ks k)).symm⟩
  unfold takeReading
  split
  case h_1 =>
    split
    · exact hself
    · exact ⟨_, rfl⟩
  case h_3 =>
    split
    · exact ⟨_, rfl⟩
    · exact testMake_keys k s
  case h_5 => exact hself
  case h_8 =>
    split
    · exact ⟨_, rfl⟩
    · exact acceptBreak_keys k s
  all_goals exact ⟨_, rfl⟩

theorem takeReading_key_other {j : Nat} (h : j ≠ k) :
    (takeReading k closed s).ks.key j = s.ks.key j := by
  obtain ⟨q, hkeys⟩ := takeReading_keys k closed s
  calc (takeReading k closed s).ks.key j = (s.ks.putKey k q).key j := by
        rw [KeyScanner.key, hkeys]; rfl
    _ = s.ks.key j := KeyScanner.key_putKey_other h

end Plain

end Sys2Proof.Machine

/-! PROOFS: the granted scan of a row, and the scanner's statement (O35). -/

namespace Sys2Proof.Machine

/-! ### The readings of a row in column order (07 R135) -/

section Row

variable {s : State} {r : Nat} {closed : BitVec 10}

/-- Behind `t` the first `n` columns of row `r` have taken readings that are no third ones, and no other key
has changed. -/
structure RowTaken (r n : Nat) (closed : BitVec 10) (s t : State) : Prop where
  frame : t = s.onKs fun ks => { ks with keys := t.ks.keys }
  size : t.ks.keys.length = s.ks.keys.length
  taken : ∀ c < n, t.ks.key (10 * r + c) = plainReading (s.ks.key (10 * r + c)) (closed.getLsbD c)
  other : ∀ k, (∀ c < n, k ≠ 10 * r + c) → t.ks.key k = s.ks.key k

theorem RowTaken.due {n : Nat} {t : State} (h : RowTaken r n closed s t) : t.ks.due = s.ks.due := by
  rw [h.frame]
  rfl

theorem RowTaken.raised {n : Nat} {t : State} (h : RowTaken r n closed s t) : t.raised = s.raised := by
  rw [h.frame]
  rfl

/-- The next column's reading. -/
theorem RowTaken.next {n : Nat} {t : State} (h : RowTaken r n closed s t)
    (hsize : 10 * r + n < s.ks.keys.length)
    (hplain : NotThird (s.ks.key (10 * r + n)) (closed.getLsbD n)) :
    RowTaken r (n + 1) closed s (takeReading (10 * r + n) (closed.getLsbD n) t) := by
  have hkey : t.ks.key (10 * r + n) = s.ks.key (10 * r + n) := h.other _ fun c hc => by omega
  have hread : takeReading (10 * r + n) (closed.getLsbD n) t = t.onKs fun ks =>
      ks.putKey (10 * r + n) (plainReading (s.ks.key (10 * r + n)) (closed.getLsbD n)) :=
    (takeReading_plain (hkey ▸ hplain)).trans (by simp only [State.onKs, hkey])
  rw [hread]
  refine ⟨?_, ?_, fun c hc => ?_, fun k hk => ?_⟩
  · conv => lhs; rw [h.frame]
    rfl
  · exact (List.length_set ..).trans h.size
  · obtain rfl | hlt := (Nat.lt_succ_iff_lt_or_eq.1 hc).symm
    · exact KeyScanner.key_putKey_same (by rw [h.size]; exact hsize)
    · exact (KeyScanner.key_putKey_other (by omega)).trans (h.taken c hlt)
  · exact (KeyScanner.key_putKey_other (hk n (by omega))).trans
      (h.other k fun c hc => hk c (by omega))

theorem takeReadings_plain (hsize : 10 * r + 10 ≤ s.ks.keys.length)
    (hplain : ∀ c < 10, NotThird (s.ks.key (10 * r + c)) (closed.getLsbD c)) :
    RowTaken r 10 closed s (takeReadings r closed s) := by
  have hcolumns (n : Nat) (hn : n ≤ 10) : RowTaken r n closed s
      ((List.range n).foldl (fun s c => takeReading (10 * r + c) (closed.getLsbD c) s) s) := by
    induction n with
    | zero => exact ⟨rfl, rfl, fun c hc => absurd hc (Nat.not_lt_zero c), fun _ _ => rfl⟩
    | succ n ih =>
      rw [List.range_succ, List.foldl_append]
      exact (ih (by omega)).next (by omega) (hplain n (by omega))
  exact hcolumns 10 (Nat.le_refl 10)

/-- Columns whose keys rest change nothing. -/
theorem foldl_takeReading_rests {cols : List Nat}
    (h : ∀ d ∈ cols, RestsAt (s.ks.key (10 * r + d)) (closed.getLsbD d)) :
    cols.foldl (fun s c => takeReading (10 * r + c) (closed.getLsbD c) s) s = s := by
  induction cols with
  | nil => rfl
  | cons d ds ih =>
    rw [List.foldl_cons, takeReading_rests (h d List.mem_cons_self)]
    exact ih fun e he => h e (List.mem_cons_of_mem d he)

/-- Where the other keys of the row rest, the row's readings are the one key's. -/
theorem takeReadings_alone {c : Nat} (hc : c < 10)
    (hrest : ∀ d < 10, d ≠ c → RestsAt (s.ks.key (10 * r + d)) (closed.getLsbD d)) :
    takeReadings r closed s = takeReading (10 * r + c) (closed.getLsbD c) s := by
  obtain ⟨before, after, hcols⟩ := List.append_of_mem (List.mem_range.2 hc)
  have hnodup : (before ++ c :: after).Nodup := hcols ▸ List.nodup_range
  have hlt (d : Nat) (hd : d ∈ before ++ c :: after) : d < 10 := List.mem_range.1 (hcols ▸ hd)
  simp only [List.nodup_append, List.nodup_cons, List.mem_cons] at hnodup
  obtain ⟨-, ⟨hafter, -⟩, hbefore⟩ := hnodup
  have hbeforeRests : ∀ d ∈ before, RestsAt (s.ks.key (10 * r + d)) (closed.getLsbD d) := fun d hd =>
    hrest d (hlt d (by simp [hd])) (hbefore d hd c (.inl rfl))
  have hafterRests : ∀ d ∈ after, RestsAt
      ((takeReading (10 * r + c) (closed.getLsbD c) s).ks.key (10 * r + d)) (closed.getLsbD d) := by
    intro d hd
    have hne : d ≠ c := fun h => hafter (h ▸ hd)
    rw [takeReading_key_other (by omega)]
    exact hrest d (hlt d (by simp [hd])) hne
  rw [takeReadings, hcols, List.foldl_append, List.foldl_cons, foldl_takeReading_rests hbeforeRests,
    foldl_takeReading_rests hafterRests]

end Row

/-! ### The request, the grant and the end of the transfer (07 R133, R134; 03 R60) -/

section Grant

variable {s : State} {row : BitVec 10}

theorem requestScan_waits {pe : PrintEngine} (h : pe.scanWait ≠ none) : requestScan pe = pe :=
  if_pos h

theorem requestScan_first {pe : PrintEngine} (h : pe.scanWait = none) : requestScan pe =
    if pe.bus = .free ∧ pe.loadWait = false then { pe with bus := .scan }
    else { pe with scanWait := some 0 } := by
  simp [requestScan, h]

theorem askScan_idle
    (h : s.port.power = .dormant ∨ s.store.state.isLoading = true ∨ s.pe.scanWait ≠ none) :
    askScan s = s := by
  obtain h | h | h := h
  · exact if_neg (by simp [scanningRuns, h])
  · exact if_neg (by simp [scanningRuns, h])
  · have hself : s.onPe requestScan = s := by rw [State.onPe, requestScan_waits h]
    rw [askScan, hself, ite_self]

theorem askScan_runs (hs : Awake s) (hpower : s.port.power ≠ .dormant)
    (hstore : s.store.state.isLoading = false) : askScan s = s.onPe requestScan :=
  if_pos (by simp [scanningRuns, hs.1, hpower, hstore])

/-- The end of a transfer moves the grant and the waiting requests alone. -/
theorem releaseBus_eq (pe : PrintEngine) : releaseBus pe = { pe with
    bus := (releaseBus pe).bus, loadWait := (releaseBus pe).loadWait
    scanWait := (releaseBus pe).scanWait } := by
  unfold releaseBus
  split
  case h_4 => split <;> rfl
  all_goals rfl

theorem releaseBus_free {pe : PrintEngine} (hload : pe.loadWait = false) (hscan : pe.scanWait = none) :
    releaseBus pe = { pe with bus := .free } := by
  simp [releaseBus, hload, hscan]

theorem releaseBus_load {pe : PrintEngine} (hload : pe.loadWait = true) (hscan : pe.scanWait = none) :
    releaseBus pe = { pe with bus := .head, loadWait := false } := by
  simp [releaseBus, hload, hscan]

/-- The row driven alone, row 7 first on SDAT (07 R133). -/
theorem sdatOut_scan (hbus : s.pe.bus = .scan) (hptr : s.ks.rowPtr < 8) :
    sdatOut s = (List.range 8).map (fun k => decide (7 - k = s.ks.rowPtr)) := by
  have hpattern : ∀ r < 8, rowSerial (rowPattern r) = (List.range 8).map fun k => decide (7 - k = r) := by
    decide
  rw [← hpattern _ hptr]
  simp [sdatOut, hbus]

/-- The state in which a granted scan takes its readings: the pattern latched, the transfer ended, the row
pointer moved. -/
def scanBegun (s : State) : State :=
  { s with
    pe := releaseBus s.pe
    ks := { s.ks with keyLatch := 1#8 <<< s.ks.rowPtr, rowPtr := (s.ks.rowPtr + 1) % 8 } }

theorem rowScan_granted (hbus : s.pe.bus = .scan) : rowScan row s
    = typematicTest s.ks.rowPtr row (takeReadings s.ks.rowPtr row (scanBegun s)) :=
  if_pos hbus

theorem rowScan_ungranted (hbus : s.pe.bus ≠ .scan) : rowScan row s = s :=
  if_neg hbus

end Grant

/-! ### A scan that tests one key at most -/

/-- The state behind a scan that has made `q'` of key `k` and, but for its keys, latch and pointer, `w` of the
scanner. -/
def scanLeft (s : State) (k : Nat) (q' : KeyState) (w : KeyScanner) : State :=
  { s with
    pe := releaseBus s.pe
    ks := { w with
      keys := s.ks.keys.set k q', keyLatch := 1#8 <<< s.ks.rowPtr
      rowPtr := (s.ks.rowPtr + 1) % 8 } }

/-- KEY_ROW_SCAN in `s` ends with `q'` for key `k`, `w` for the scanner, and `bytes` behind what the output
FIFO held: always where there are none, else with room for them. -/
def ScanEnds (s : State) (row : BitVec 10) (k : Nat) (q' : KeyState) (w : KeyScanner) (bytes : List Byte) :
    Prop :=
  bytes = [] ∨ s.port.out.length ≤ 124 →
    ∃ t, exec (.keyRowScan row) s = .next t ∧ t = { s with
      pe := { s.pe with bus := t.pe.bus, loadWait := t.pe.loadWait, scanWait := t.pe.scanWait }
      ks := { w with
        keys := s.ks.keys.set k q', keyLatch := 1#8 <<< s.ks.rowPtr
        rowPtr := (s.ks.rowPtr + 1) % 8 }
      port := { s.port with out := s.port.out ++ bytes } }

section Ends

variable {s : State} {row : BitVec 10} {k : Nat} {q' : KeyState} {w : KeyScanner}

theorem ScanEnds.of_answered {bytes : List Byte} (h : bytes = [] ∨ s.port.out.length ≤ 124 →
    exec (.keyRowScan row) s = .next ((scanLeft s k q' w).answered bytes)) :
    ScanEnds s row k q' w bytes := fun hroom => by
  refine ⟨_, h hroom, ?_⟩
  conv => lhs; rw [scanLeft, releaseBus_eq]
  rfl

/-- A scan that raises no notice. -/
theorem ScanEnds.quiet (hs : Awake s) (hscan : rowScan row s = scanLeft s k q' w) :
    ScanEnds s row k q' w [] := .of_answered fun _ => by
  rw [State.answered_nil, ← hscan]
  exact event_quiet hs (by rw [hscan]; exact hs.2)

/-- A scan that raises one notice. -/
theorem ScanEnds.told {n : Notice} (hs : Awake s) (hscan : rowScan row s = raise n (scanLeft s k q' w))
    (hsize : n.bytes.length ≤ 4) : ScanEnds s row k q' w n.bytes := .of_answered fun hroom => by
  have hout : s.port.out.length ≤ 124 := hroom.resolve_left (by simp [Notice.bytes])
  have hevent : exec (.keyRowScan row) s = .next (placeNotices (rowScan row s)) := event_next hs.1
  have hplaced := placeNotices_one (n := n) (s := scanLeft s k q' w) hs.2
    (Nat.add_le_add hout hsize)
  rw [hevent, hscan, hplaced]

/-- A scan whose one event joins KQ. -/
theorem ScanEnds.event_joins {kind : KeyKind} (hs : Awake s)
    (hscan : rowScan row s = enqueue k kind (scanLeft s k q' w))
    (hkq : w.kq = s.ks.kq) (hmods : modState (scanLeft s k q' w).ks = modState s.ks)
    (hroom : s.ks.kq.length < 16) :
    ScanEnds s row k q' { w with kq := s.ks.kq ++ [⟨k, kind, modState s.ks⟩] } [] := by
  refine .quiet hs (hscan.trans ?_)
  rw [enqueue_room (by rw [← hkq] at hroom; exact hroom), State.onKs, hmods, ← hkq]
  rfl

/-- A scan whose one event finds KQ full (07 R144). -/
theorem ScanEnds.event_lost {kind : KeyKind} (hs : Awake s)
    (hscan : rowScan row s = enqueue k kind (scanLeft s k q' w))
    (hkq : w.kq = s.ks.kq) (hover : w.kqOverrun = s.ks.kqOverrun) (hfull : 16 ≤ s.ks.kq.length) :
    ScanEnds s row k q' { w with kqOverrun := true }
      (if s.ks.kqOverrun then [] else [0x49, 0x02, byteOf k, kind.byte]) := by
  rw [enqueue_full (by rw [← hkq] at hfull; exact hfull)] at hscan
  have hflag : (scanLeft s k q' w).ks.kqOverrun = s.ks.kqOverrun := hover
  rw [hflag] at hscan
  cases h : s.ks.kqOverrun with
  | true =>
    rw [h] at hscan
    exact .quiet hs (hscan.trans (by simp only [↓reduceIte, List.append_nil]; rfl))
  | false =>
    rw [h] at hscan
    exact .told (n := .keyOverrun k kind) hs hscan (Nat.le_refl 4)

end Ends

/-! ### One key of the row, the others at rest -/

/-- The scan of `s` reads its row with every key but the one in column `c`, key `k`, at rest. -/
structure LoneScan (s : State) (row : BitVec 10) (k c : Nat) : Prop where
  awake : Awake s
  granted : s.pe.bus = .scan
  size : s.ks.keys.length = 80
  ptr : s.ks.rowPtr < 8
  col : c < 10
  key : k = 10 * s.ks.rowPtr + c
  rest : ∀ d < 10, d ≠ c → RestsAt (s.ks.key (10 * s.ks.rowPtr + d)) (row.getLsbD d)

namespace LoneScan

variable {s : State} {row : BitVec 10} {k c n : Nat}

theorem rowScan_eq (h : LoneScan s row k c) : rowScan row s
    = typematicTest s.ks.rowPtr row (takeReading k (row.getLsbD c) (scanBegun s)) := by
  rw [rowScan_granted h.granted, takeReadings_alone h.col (by exact h.rest), ← h.key]

/-- The third closed reading, no typematic test due. -/
theorem rowScan_thirdClosed (h : LoneScan s row k c) (hdeb : ∃ n, 2 ≤ n ∧ (s.ks.key k).deb = .makePending n)
    (hclosed : row.getLsbD c = true) :
    rowScan row s = typematicTest s.ks.rowPtr row (testMake k (scanBegun s)) := by
  obtain ⟨n, hn, hdeb⟩ := hdeb
  rw [h.rowScan_eq, hclosed, takeReading_thirdClosed (by exact hdeb) hn]

theorem ends_ghost (h : LoneScan s row k c) (hdue : s.ks.due = false)
    (hdeb : ∃ n, 2 ≤ n ∧ (s.ks.key k).deb = .makePending n) (hclosed : row.getLsbD c = true)
    (hghost : ghost s.ks k = true) :
    ScanEnds s row k { s.ks.key k with deb := .makePending 3 } s.ks [] := by
  refine .quiet h.awake ?_
  rw [h.rowScan_thirdClosed hdeb hclosed, testMake_ghost (by exact hghost), typematicTest_notDue (by exact hdue)]
  rfl

theorem ends_modifier {m : ModKind} (h : LoneScan s row k c) (hdue : s.ks.due = false)
    (hdeb : ∃ n, 2 ≤ n ∧ (s.ks.key k).deb = .makePending n) (hclosed : row.getLsbD c = true)
    (hghost : ghost s.ks k = false) (hmod : (s.kr.entry .base k).modifier = some m) :
    ScanEnds s row k { s.ks.key k with deb := .down, modKind := some m } s.ks [] := by
  refine .quiet h.awake ?_
  rw [h.rowScan_thirdClosed hdeb hclosed, testMake_modifier (by exact hghost) (by exact hmod),
    typematicTest_notDue (by exact hdue)]
  rfl

theorem ends_fullList (h : LoneScan s row k c) (hdue : s.ks.due = false)
    (hdeb : ∃ n, 2 ≤ n ∧ (s.ks.key k).deb = .makePending n) (hclosed : row.getLsbD c = true)
    (hghost : ghost s.ks k = false) (hmod : (s.kr.entry .base k).modifier = none)
    (hlist : 6 ≤ s.ks.downList.length) :
    ScanEnds s row k { s.ks.key k with deb := .makePending 3 } s.ks [] := by
  refine .quiet h.awake ?_
  rw [h.rowScan_thirdClosed hdeb hclosed, testMake_plain (by exact hghost) (by exact hmod),
    if_pos (by exact hlist), typematicTest_notDue (by exact hdue)]
  rfl

theorem rowScan_made (h : LoneScan s row k c) (hdue : s.ks.due = false)
    (hdeb : ∃ n, 2 ≤ n ∧ (s.ks.key k).deb = .makePending n) (hclosed : row.getLsbD c = true)
    (hghost : ghost s.ks k = false) (hmod : (s.kr.entry .base k).modifier = none)
    (hlist : s.ks.downList.length < 6) :
    rowScan row s = enqueue k .make (scanLeft s k { s.ks.key k with deb := .down } (madeDown s k)) := by
  rw [h.rowScan_thirdClosed hdeb hclosed, testMake_plain (by exact hghost) (by exact hmod),
    if_neg (Nat.not_le.2 (by exact hlist)), acceptMake_eq (by exact hdue),
    typematicTest_notDue ((enqueue_ks_due ..).trans (by exact hdue))]
  rfl

theorem modState_down (s : State) (k : Nat) {w : KeyScanner} :
    modState (scanLeft s k { s.ks.key k with deb := .down } w).ks = modState s.ks :=
  modState_setDeb s.ks k .down

/-- The third open reading is a break (07 R140). -/
theorem exec_break (h : LoneScan s row k c) (hdue : s.ks.due = false)
    (hdeb : ∃ n, 2 ≤ n ∧ (s.ks.key k).deb = .breakPending n) (hopen : row.getLsbD c = false) :
    ∃ t, exec (.keyRowScan row) s = .next t
      ∧ t.ks.key k = { s.ks.key k with deb := .up, modKind := none }
      ∧ t.ks.downList = s.ks.downList.filter (fun d => d.key ≠ k)
      ∧ t.ks.kq = s.ks.kq ∧ t.port = s.port := by
  obtain ⟨n, hn, hdeb⟩ := hdeb
  obtain ⟨ty, hbreak⟩ := acceptBreak_eq (s := scanBegun s) (k := k) hdue
  have hscan : rowScan row s = acceptBreak k (scanBegun s) := by
    rw [h.rowScan_eq, hopen, takeReading_thirdOpen (by exact hdeb) hn, hbreak,
      typematicTest_notDue (by exact hdue)]
  rw [hbreak] at hscan
  refine ⟨_, event_quiet h.awake (by rw [hscan]; exact h.awake.2), ?_⟩
  rw [hscan]
  have hk : k < s.ks.keys.length := by
    have hptr := h.ptr
    have hcol := h.col
    rw [h.size, h.key]
    omega
  exact ⟨KeyScanner.key_putKey_same (ks := (scanBegun s).ks) hk, rfl, rfl, rfl⟩

/-- The due subject, closed and down, repeats (07 R146). -/
theorem rowScan_repeats {ty : Typematic} (h : LoneScan s row k c) (hdue : s.ks.due = true)
    (hty : s.ks.typematic = some ty) (hsubject : ty.key = k) (hclosed : row.getLsbD c = true)
    (hdeb : (s.ks.key k).deb = .down ∨ ∃ n, (s.ks.key k).deb = .breakPending n) :
    rowScan row s = enqueue k .repeated
      (scanLeft s k { s.ks.key k with deb := .down } { s.ks with due := false }) := by
  subst hsubject
  have hkey := h.key
  have hcol := h.col
  have hptr := h.ptr
  have hrow : ty.key / 10 = s.ks.rowPtr := by omega
  have hcolumn : ty.key % 10 = c := by omega
  have hdown : ((s.ks.setDeb ty.key .down).key ty.key).deb = .down := by
    rw [KeyScanner.setDeb, KeyScanner.key_putKey_same (by rw [h.size]; omega)]
  rw [h.rowScan_eq, hclosed, takeReading_heldClosed (by exact hdeb),
    typematicTest_repeats (by exact hty) (by exact hdue) hrow (by exact hdown) (by rw [hcolumn, hclosed])]
  rfl

/-- A due subject that reads open makes no event, and the flag stays (07 R146). -/
theorem ends_openDue {ty : Typematic} (h : LoneScan s row k c)
    (hty : s.ks.typematic = some ty) (hsubject : ty.key = k) (hopen : row.getLsbD c = false)
    (hdeb : (s.ks.key k).deb = .down) :
    ScanEnds s row k { s.ks.key k with deb := .breakPending 1 } s.ks [] := by
  subst hsubject
  have hkey := h.key
  have hcol := h.col
  have hptr := h.ptr
  have hpending : ((s.ks.setDeb ty.key (.breakPending 1)).key ty.key).deb ≠ .down := by
    rw [KeyScanner.setDeb, KeyScanner.key_putKey_same (by rw [h.size]; omega)]
    exact Debounce.noConfusion
  refine .quiet h.awake ?_
  rw [h.rowScan_eq, hopen, takeReading_opens (by exact hdeb), typematicTest_notDown (by exact hty) (by exact hpending)]
  rfl

end LoneScan

/-- A granted scan none of whose readings is a third one, with no typematic test due. -/
theorem exec_plainScan {s : State} {row : BitVec 10} (hs : Awake s) (hbus : s.pe.bus = .scan)
    (hsize : s.ks.keys.length = 80) (hptr : s.ks.rowPtr < 8) (hdue : s.ks.due = false)
    (hplain : ∀ c < 10, NotThird (s.ks.key (10 * s.ks.rowPtr + c)) (row.getLsbD c)) :
    ∃ t, exec (.keyRowScan row) s = .next t ∧ RowTaken s.ks.rowPtr 10 row (scanBegun s) t := by
  have hrow : 10 * s.ks.rowPtr + 10 ≤ s.ks.keys.length := by omega
  have htaken := takeReadings_plain (s := scanBegun s) hrow hplain
  have hscan : rowScan row s = takeReadings s.ks.rowPtr row (scanBegun s) := by
    rw [rowScan_granted hbus, typematicTest_notDue (htaken.due.trans hdue)]
  rw [← hscan] at htaken
  exact ⟨_, event_quiet hs (htaken.raised.trans hs.2), htaken⟩

/-- Settles O35: the requests, a scan of plain readings, and a scan that tests one key. -/
theorem keyRowScanDebouncesEachKey : Obligations.KeyRowScanDebouncesEachKey := by
  refine ⟨fun s hs => ⟨?_, ?_, ?_, ?_, ?_⟩, ?_, ?_⟩
  -- SCAN_REQUEST, an ungranted KEY_ROW_SCAN and TYPEMATIC_TIMER.
  · exact fun h => event_idle hs (askScan_idle h)
  · intro hpower hstore hwait
    have hask := askScan_runs hs hpower hstore
    rw [← requestScan_first hwait]
    exact (event_quiet hs (by rw [hask]; exact hs.2)).trans (congrArg _ hask)
  · exact fun row hbus => event_idle hs (rowScan_ungranted hbus)
  · exact fun hty => event_idle hs (typematicRunsOut_idle hty)
  · intro ty hty
    have hrun := typematicRunsOut_running hty
    exact ⟨typematicPeriod s, (event_quiet hs (by rw [hrun]; exact hs.2)).trans (congrArg _ hrun),
      roundDiv_bounds⟩
  -- A row of plain readings.
  · intro s row hs hbus hsize hptr hdue hplain
    obtain ⟨t, hexec, htaken⟩ := exec_plainScan hs hbus hsize hptr hdue hplain
    have hpe : t.pe = releaseBus s.pe := by rw [htaken.frame]; rfl
    refine ⟨t, hexec, ?_, sdatOut_scan hbus hptr, ?_, ?_, ?_, ?_⟩
    · conv => lhs; rw [htaken.frame]
      rw [hpe]
      conv => lhs; rw [scanBegun, releaseBus_eq]
      rfl
    · intro hload hscan
      rw [hpe, releaseBus_free hload hscan]
    · intro hload hscan
      rw [hpe, releaseBus_load hload hscan]
      exact ⟨rfl, rfl⟩
    · exact fun k _ hrow => htaken.other k fun c hc => by omega
    · exact fun c hc => (htaken.taken c hc).trans rfl
  -- One key at a test, or the due subject.
  intro s row k c q rect hs hbus hsize hptr hc hk hq hrest hrect ends hends
  obtain rfl : ends = ScanEnds s row k :=
    funext fun q' => funext fun w => funext fun bytes => propext (hends q' w bytes)
  have hlone : LoneScan s row k c := ⟨hs, hbus, hsize, hptr, hc, hk, hrest⟩
  have hghost : ghost s.ks k = true ↔ rect := by rw [hk, ghost_iff hc, hrect]
  subst hq
  refine ⟨fun hdue hdeb hclosed => ⟨fun h => ?_, fun h m hm => ?_, fun h hshift hctrl hfunc => ?_⟩,
    fun hdue => hlone.exec_break hdue, fun ty hdue hty hsubject => ⟨?_, ?_⟩⟩
  · exact hlone.ends_ghost hdue hdeb hclosed (hghost.2 h)
  · exact hlone.ends_modifier hdue hdeb hclosed (Bool.eq_false_iff.2 (mt hghost.1 h))
      (KeyEntry.modifier_of_action hm)
  · have hnoGhost : ghost s.ks k = false := Bool.eq_false_iff.2 (mt hghost.1 h)
    have hmod := KeyEntry.modifier_eq_none hshift hctrl hfunc
    refine ⟨hlone.ends_fullList hdue hdeb hclosed hnoGhost hmod, ?_⟩
    rintro hlist _ w rfl rfl
    have hmade := hlone.rowScan_made hdue hdeb hclosed hnoGhost hmod hlist
    exact ⟨.event_joins hs hmade rfl (LoneScan.modState_down s k),
      .event_lost hs hmade rfl rfl⟩
  · intro hclosed hdeb
    have hscan := hlone.rowScan_repeats hdue hty hsubject hclosed hdeb
    exact ⟨.event_joins hs hscan rfl (LoneScan.modState_down s k), .event_lost hs hscan rfl rfl⟩
  · exact hlone.ends_openDue hty hsubject

end Sys2Proof.Machine

/-! PROOFS: LOAD KEYMAP (O37). -/

namespace Sys2Proof.Machine

/-! ### The two bytes of a keymap entry (08 R162; Table 8-1) -/

section Entries

variable {kind value : Byte} {e : KeyEntry}

/-- The six kind bytes are those that name NONE, CODE or ACTION below the repeat flag. -/
theorem mem_entryKinds_iff :
    kind ∈ ([0x00, 0x01, 0x02, 0x80, 0x81, 0x82] : List Byte) ↔ kind.toNat % 0x80 ≤ 2 := by
  simp only [List.mem_cons, List.not_mem_nil, or_false]
  bv_omega

theorem mem_actionKinds_iff : kind ∈ ([0x02, 0x82] : List Byte) ↔ kind.toNat % 0x80 = 2 := by
  simp only [List.mem_cons, List.not_mem_nil, or_false]
  bv_omega

/-- Numbers that name no action: 0Ah, 0Bh, and those outside 01h to 17h. -/
theorem Action.ofNat?_eq_none_iff {n : Nat} :
    Action.ofNat? n = none ↔ n = 0 ∨ n = 0x0A ∨ n = 0x0B ∨ 0x17 < n := by
  unfold Action.ofNat?
  split
  case h_14 =>
    rw [ite_eq_right_iff]
    grind
  all_goals simp

/-- The action of a number has that number. -/
theorem Action.num_of_ofNat? {n : Nat} {a : Action} (h : Action.ofNat? n = some a) : a.num = n := by
  unfold Action.ofNat? at h
  split at h
  case h_14 =>
    obtain ⟨⟨hlo, -⟩, rfl⟩ : (0x0C ≤ n ∧ n ≤ 0x13) ∧ Action.openForm (n - 0x0B) = a := by simpa using h
    exact Nat.add_sub_of_le (by omega)
  all_goals
    cases h
    rfl

theorem KeyEntry.ofBytes?_nothing (h : kind.toNat % 0x80 = 0) :
    KeyEntry.ofBytes? kind value = some ⟨.nothing, decide (0x80 ≤ kind.toNat)⟩ := by
  simp [KeyEntry.ofBytes?, h]

theorem KeyEntry.ofBytes?_code (h : kind.toNat % 0x80 = 1) :
    KeyEntry.ofBytes? kind value = some ⟨.code value, decide (0x80 ≤ kind.toNat)⟩ := by
  simp [KeyEntry.ofBytes?, h]

theorem KeyEntry.ofBytes?_action (h : kind.toNat % 0x80 = 2) :
    KeyEntry.ofBytes? kind value
      = (Action.ofNat? value.toNat).map fun a => ⟨.action a, decide (0x80 ≤ kind.toNat)⟩ := by
  simp [KeyEntry.ofBytes?, h]

/-- The pairs that LOAD KEYMAP refuses. -/
theorem KeyEntry.ofBytes?_eq_none (h : 2 < kind.toNat % 0x80
    ∨ kind.toNat % 0x80 = 2 ∧ Action.ofNat? value.toNat = none) : KeyEntry.ofBytes? kind value = none := by
  rcases h with hkind | ⟨hkind, haction⟩
  · unfold KeyEntry.ofBytes?
    dsimp only
    split
    case h_4 => rfl
    all_goals omega
  · rw [KeyEntry.ofBytes?_action hkind, haction, Option.map_none]

/-- The kind byte of an entry with the repeat flag of `kind`. -/
theorem kindByte_eq {base : Nat} (h : kind.toNat % 0x80 = base) :
    byteOf ((if decide (0x80 ≤ kind.toNat) = true then 0x80 else 0) + base) = kind := by
  apply BitVec.eq_of_toNat_eq
  have hlt := kind.isLt
  simp only [byteOf, BitVec.toNat_ofNat, decide_eq_true_eq]
  split <;> omega

theorem byteOf_toNat (b : Byte) : byteOf b.toNat = b := BitVec.ofNat_toNat _ _

/-- `e` is what the kind byte and the value byte name, and is stored as these two bytes (08 R162). -/
def KeyEntry.NamedBy (kind value : Byte) (e : KeyEntry) : Prop :=
  e.rep = decide (0x80 ≤ kind.toNat)
    ∧ (kind.toNat % 0x80 = 0 → e.kind = .nothing)
    ∧ (kind.toNat % 0x80 = 1 → e.kind = .code value)
    ∧ (kind.toNat % 0x80 = 2 → ∃ a : Action, e.kind = .action a ∧ a.num = value.toNat)
    ∧ e.bytes = (kind, if kind.toNat % 0x80 = 0 then 0 else value)

/-- The pairs that LOAD KEYMAP takes. -/
theorem KeyEntry.ofBytes?_named (hkind : kind.toNat % 0x80 ≤ 2)
    (haction : kind.toNat % 0x80 = 2 → Action.ofNat? value.toNat ≠ none) :
    ∃ e, KeyEntry.ofBytes? kind value = some e ∧ e.NamedBy kind value := by
  obtain h | h | h : kind.toNat % 0x80 = 0 ∨ kind.toNat % 0x80 = 1 ∨ kind.toNat % 0x80 = 2 := by omega
  · refine ⟨_, KeyEntry.ofBytes?_nothing h, rfl, fun _ => rfl, by omega, by omega, ?_⟩
    rw [if_pos h]
    exact congrArg (·, 0) (kindByte_eq h)
  · refine ⟨_, KeyEntry.ofBytes?_code h, rfl, by omega, fun _ => rfl, by omega, ?_⟩
    rw [if_neg (by omega)]
    exact congrArg (·, value) (kindByte_eq h)
  · obtain ⟨a, ha⟩ := Option.ne_none_iff_exists'.1 (haction h)
    have hnum := Action.num_of_ofNat? ha
    refine ⟨⟨.action a, decide (0x80 ≤ kind.toNat)⟩, ?_, rfl, by omega, by omega, fun _ => ⟨a, rfl, hnum⟩, ?_⟩
    · rw [KeyEntry.ofBytes?_action h, ha, Option.map_some]
    · have hvalue : byteOf a.num = value := by rw [hnum, byteOf_toNat]
      rw [if_neg (by omega)]
      exact Prod.ext (kindByte_eq h) hvalue

end Entries

/-! ### The command -/

section Command

variable {s u : State} {p : List Byte} {r : Resp}

/-- LOAD KEYMAP that the store does not keep from its own rule, with what the rule gives. -/
theorem exec_loadKeymap (hs : CommandReady s) (hl : p.length ≤ 63) (hrun : cmdLoadKeymap p s = (u, r))
    (hu : u.raised = []) : exec (.loadKeymap p) s = .next (u.answered r.bytes) :=
  deliverFrame_quiet (code := 0x28) hs hl (by decide) hrun hu

theorem cmdLoadKeymap_busy (hstore : s.store.state ≠ .idle) : cmdLoadKeymap p s = (s, .bare .busy) := by
  have hbusy : storeBusy s = true := by
    rw [← Bool.not_eq_false, storeBusy_eq_false_iff]
    exact hstore
  exact if_pos hbusy

/-- A payload of four bytes while the store is IDLE: the place first, then the entry. -/
theorem cmdLoadKeymap_four {k l kind value : Byte} (hstore : s.store.state = .idle) :
    cmdLoadKeymap [k, l, kind, value] s =
      if 79 < k.toNat ∨ 3 < l.toNat then (s, .bare .range)
      else match KeyEntry.ofBytes? kind value with
        | some e => ({ s with kr := s.kr.putEntry l.toNat k.toNat e }, .bare .ok)
        | none => (s, .bare .range) := by
  unfold cmdLoadKeymap
  exact if_neg (by simp [(storeBusy_eq_false_iff s).2 hstore])

/-- A payload of another length than four, a place outside the keymap, or bytes that name no entry. -/
theorem cmdLoadKeymap_range (hstore : s.store.state = .idle)
    (h : p.length ≠ 4 ∨ 79 < (p.getD 0 0).toNat ∨ 3 < (p.getD 1 0).toNat
      ∨ KeyEntry.ofBytes? (p.getD 2 0) (p.getD 3 0) = none) : cmdLoadKeymap p s = (s, .bare .range) := by
  match p with
  | [k, l, kind, value] =>
    rw [cmdLoadKeymap_four hstore]
    rcases h with h | h | h | h
    · exact absurd rfl h
    · exact if_pos (.inl h)
    · exact if_pos (.inr h)
    · have hnone : KeyEntry.ofBytes? kind value = none := h
      rw [hnone, ite_self]
  | [] | [_] | [_, _] | [_, _, _] | _ :: _ :: _ :: _ :: _ :: _ =>
    exact if_neg (by simp [(storeBusy_eq_false_iff s).2 hstore])

/-- A place of the keymap and bytes that name an entry: the entry stands there. -/
theorem cmdLoadKeymap_load {k l kind value : Byte} {e : KeyEntry} (hstore : s.store.state = .idle)
    (hkey : k.toNat ≤ 79) (hlayer : l.toNat ≤ 3) (hentry : KeyEntry.ofBytes? kind value = some e) :
    cmdLoadKeymap [k, l, kind, value] s
      = ({ s with kr := { s.kr with keymap := s.kr.keymap.set (80 * l.toNat + k.toNat) e } }, .bare .ok) := by
  rw [cmdLoadKeymap_four hstore, if_neg (by omega), hentry]
  rfl

end Command

/-- Settles O37: BUSY by the store's state, RANGE by the payload, else the entry that its last two bytes
name. -/
theorem loadKeymapReplacesOneEntry : Obligations.LoadKeymapReplacesOneEntry := by
  intro s p hs hl
  refine ⟨fun hstore => ?_, fun hidle => ?_⟩
  · cases hload : s.store.state.isLoading with
    | true => exact deliverFrame_loading hs hl (by decide) (by decide) hload
    | false => exact exec_loadKeymap ⟨hs, hload⟩ hl (cmdLoadKeymap_busy hstore) hs.1.2
  have hready : CommandReady s := ⟨hs, by rw [hidle]; rfl⟩
  refine ⟨fun hbad => exec_loadKeymap hready hl (cmdLoadKeymap_range hidle ?_) hs.1.2, ?_⟩
  · rcases hbad with h | h | h | h | ⟨h, hvalue⟩
    · exact .inl h
    · exact .inr (.inl h)
    · exact .inr (.inr (.inl h))
    · exact .inr (.inr (.inr (KeyEntry.ofBytes?_eq_none
        (.inl (Nat.lt_of_not_le (mt mem_entryKinds_iff.2 h))))))
    · exact .inr (.inr (.inr (KeyEntry.ofBytes?_eq_none
        (.inr ⟨mem_actionKinds_iff.1 h, Action.ofNat?_eq_none_iff.2 hvalue⟩))))
  · rintro k l kind value rfl hkey hlayer hkind haction -
    obtain ⟨e, hentry, hnamed⟩ := KeyEntry.ofBytes?_named (value := value) (mem_entryKinds_iff.1 hkind)
      fun h hnone => by
        obtain ⟨hlo, hhi, hA, hB⟩ := haction (mem_actionKinds_iff.2 h)
        have hout := Action.ofNat?_eq_none_iff.1 hnone
        omega
    exact ⟨e, exec_loadKeymap hready hl (cmdLoadKeymap_load hidle hkey hlayer hentry) hs.1.2, hnamed⟩

end Sys2Proof.Machine

/-! PROOFS: a key event looked up, and its code delivered (O36). -/

namespace Sys2Proof.Machine

/-! ### How an examination ends (08 R153) -/

/-- The event leaves KQ as its only one, and the overrun flag is cleared. -/
def keyTaken (s : State) : State :=
  { s with ks := { s.ks with kq := [], kqOverrun := false, echoBegun := false } }

section Examination

variable {s v : State} {ev : KeyEvent} {rest : List KeyEvent}

theorem onKs_dropEvent (h : s.ks.kq = [ev]) : s.onKs dropEvent = keyTaken s := by
  simp [State.onKs, dropEvent, keyTaken, h]

/-- A head event that is not taken stays with those behind it. -/
theorem examineHead_stays (fuel : Nat) (hkq : s.ks.kq = ev :: rest) (hroute : routeEvent ev s = (s, false)) :
    examineHead fuel s = s := by
  cases fuel with
  | zero => rfl
  | succ fuel => simp only [examineHead, hkq, hroute]

/-- Behind a taken event the next one is examined. -/
theorem examineHead_takes (fuel : Nat) (hkq : s.ks.kq = ev :: rest) (hroute : routeEvent ev s = (v, true)) :
    examineHead (fuel + 1) s = examineHead fuel (v.onKs dropEvent) := by
  simp only [examineHead, hkq, hroute]

/-- The only event, taken. -/
theorem examine_takes (hkq : s.ks.kq = [ev]) (hroute : routeEvent ev s = (v, true)) (hks : v.ks = s.ks) :
    examine s = keyTaken v := by
  rw [examine, hkq, ← onKs_dropEvent (hks ▸ hkq)]
  exact examineHead_takes 0 hkq hroute

theorem exec_key_stays (hs : Awake s) (hkq : s.ks.kq = ev :: rest) (hroute : routeEvent ev s = (s, false)) :
    exec .keyEventExamine s = .next s :=
  event_idle hs (examineHead_stays _ hkq hroute)

/-- A taken event that raises no notice. -/
theorem exec_key_quiet (hs : Awake s) (hkq : s.ks.kq = [ev]) (hroute : routeEvent ev s = (v, true))
    (hks : v.ks = s.ks) (hraised : v.raised = []) : exec .keyEventExamine s = .next (keyTaken v) := by
  have hexamine := examine_takes hkq hroute hks
  exact (event_quiet hs (by rw [hexamine]; exact hraised)).trans (by rw [hexamine])

/-- A taken event with the notices that it raises, for which there is room. -/
theorem exec_key_told {ns : List Notice} (hs : Awake s) (hkq : s.ks.kq = [ev])
    (hroute : routeEvent ev s = ({ v with raised := ns }, true)) (hks : v.ks = s.ks) (hraised : v.raised = [])
    (hport : v.port = s.port) (hroom : s.port.out.length + (ns.flatMap Notice.bytes).length ≤ 128) :
    exec .keyEventExamine s = .next ((keyTaken v).answered (ns.flatMap Notice.bytes)) := by
  have hexec : exec .keyEventExamine s = .next (placeNotices (examine s)) := event_next hs.1
  have hplaced : placeNotices { keyTaken v with raised := ns }
      = (keyTaken v).answered (ns.flatMap Notice.bytes) := by
    have hquiet : (keyTaken v).raised = [] := hraised
    simp only [placeNotices, State.answered, State.onPort, hquiet]
    rw [foldl_placeNotice_room (by rw [← hport] at hroom; exact hroom)]
  rw [hexec, examine_takes hkq hroute (by exact hks)]
  exact congrArg _ hplaced

end Examination

/-! ### The entry of the event (08 R152, R154) -/

section Lookup

variable {s : State} {ev : KeyEvent} {b : Byte}

theorem routeEvent_nothing (h : (s.kr.entry ev.mods.layer ev.key).kind = .nothing) :
    routeEvent ev s = (s, true) := by
  rw [routeEvent, h]

/-- The keyboard lock discards a code. -/
theorem routeEvent_lockedCode (h : (s.kr.entry ev.mods.layer ev.key).kind = .code b)
    (hlock : s.tor.nums.getD 32 0 = 1) : routeEvent ev s = (s, true) := by
  have hlocked : locked s = true := decide_eq_true hlock
  simp [routeEvent, h, hlocked]

theorem locked_eq_false (h : s.tor.nums.getD 32 0 ≠ 1) : locked s = false := decide_eq_false h

/-- Without the lock and without a form a code goes to its destinations. -/
theorem routeEvent_code (h : (s.kr.entry ev.mods.layer ev.key).kind = .code b)
    (hlock : s.tor.nums.getD 32 0 = 0) (hform : s.fu.inst = none) : routeEvent ev s = routeCode b ev s := by
  have hunlocked : locked s = false := locked_eq_false (by rw [hlock]; decide)
  simp [routeEvent, h, hunlocked, formState_none hform]

end Lookup

/-! ### The destinations of a code (08 R155, R156) -/

section Code

variable {s v : State} {ev : KeyEvent} {b : Byte}

theorem codeToFar_local (h : s.kr.localFlag = true) : codeToFar s = false := by simp [codeToFar, h]

/-- Field 32 at 1 sends no code to the far end. -/
theorem codeToFar_told (h : s.tor.nums.getD 31 0 = 1) : codeToFar s = false := by
  have hroute : s.opt 32 = 1 := h
  simp [codeToFar, hroute]

theorem codeToFar_offline (h : s.link.state ≠ .online) : codeToFar s = false := by simp [codeToFar, h]

theorem codeToFar_online (hlocal : s.kr.localFlag = false)
    (hroute : s.tor.nums.getD 31 0 = 0 ∨ s.tor.nums.getD 31 0 = 2) (honline : s.link.state = .online) :
    codeToFar s = true := by
  have hfield : s.opt 32 = 0 ∨ s.opt 32 = 2 := hroute
  simp [codeToFar, hlocal, hfield, honline]

/-- The controller is told under the LOCAL flag, and with field 32 at 1 or 2. -/
theorem codeToController_told
    (h : s.kr.localFlag = true ∨ s.tor.nums.getD 31 0 = 1 ∨ s.tor.nums.getD 31 0 = 2) :
    codeToController s = true := by
  have hfield : s.kr.localFlag = true ∨ s.opt 32 = 1 ∨ s.opt 32 = 2 := h
  simp [codeToController, hfield, or_assoc]

theorem codeToController_quiet (hlocal : s.kr.localFlag = false) (hroute : s.tor.nums.getD 31 0 = 0) :
    codeToController s = false := by
  have hfield : s.opt 32 = 0 := hroute
  simp [codeToController, hlocal, hfield]

theorem codeToEcho_off (h : s.tor.nums.getD 0 0 = 0 ∨ s.kr.localFlag = true) : codeToEcho s = false := by
  have hfield : s.opt 1 = 0 ∨ s.kr.localFlag = true := h
  rcases hfield with h | h <;> simp [codeToEcho, h]

theorem codeToEcho_on (hecho : s.tor.nums.getD 0 0 = 1) (hlocal : s.kr.localFlag = false) :
    codeToEcho s = true := by
  have hfield : s.opt 1 = 1 := hecho
  simp [codeToEcho, hlocal, hfield]

/-- TXQ takes no byte of a code behind 158 data bytes, or while a reply waits. -/
theorem codeReady_full (hfar : codeToFar s = true)
    (h : 158 ≤ s.framer.data.length ∨ ∃ r, s.dp = .replyWait r) : codeReady s = false := by
  rcases h with hfull | ⟨r, hreply⟩
  · have hno : dataFits 1 s.framer = false := decide_eq_false (by simp only [Config.txDataCapacity]; omega)
    simp [codeReady, hfar, hno]
  · simp [codeReady, hfar, replyWaits, hreply]

theorem codeReady_room (hroom : s.framer.data.length < 158) (hreply : ∀ r, s.dp ≠ .replyWait r)
    (hecho : codeToEcho s = false) : codeReady s = true := by
  have hfits : dataFits 1 s.framer = true := dataFits_iff.2 hroom
  simp [codeReady, hfits, replyWaits_eq_false hreply, hecho]

/-- A code that goes neither to TXQ nor to the KEY line waits for nothing. -/
theorem codeReady_free (hfar : codeToFar s = false) (hecho : codeToEcho s = false) : codeReady s = true := by
  simp [codeReady, hfar, hecho]

theorem keyLineFree_of_nil (hwait : s.la.key.waiting = []) : keyLineFree s = true :=
  List.isEmpty_iff.2 hwait

theorem keyLineFree_eq_false (hwait : s.la.key.waiting ≠ []) : keyLineFree s = false := by
  rw [← Bool.not_eq_true]
  exact mt List.isEmpty_iff.1 hwait

/-- The echo of a code waits for the KEY line alone. -/
theorem codeReady_keyLine (hfar : codeToFar s = false) (hwait : s.la.key.waiting = []) :
    codeReady s = true := by
  simp [codeReady, hfar, keyLineFree_of_nil hwait]

theorem codeReady_keyWaits (hecho : codeToEcho s = true) (hwait : s.la.key.waiting ≠ []) :
    codeReady s = false := by
  simp [codeReady, hecho, keyLineFree_eq_false hwait]

theorem routeCode_stays (h : codeReady s = false) : routeCode b ev s = (s, false) := by
  simp [routeCode, h]

theorem routeCode_plain (hready : codeReady s = true) (hecho : codeToEcho s = false) :
    routeCode b ev s = (sendCode (codeToFar s) (codeToController s) b ev s, true) := by
  simp [routeCode, hready, hecho]

/-- The echo first: what the KEY line leaves of the state goes on to the other destinations. -/
theorem routeCode_echo (hready : codeReady s = true) (hecho : codeToEcho s = true)
    (hoffer : offerCode .key b .none s = .taken v) :
    routeCode b ev s = (sendCode (codeToFar s) (codeToController s) b ev v, true) := by
  simp [routeCode, hready, hecho, hoffer]

/-- An empty KEY line echoes a printable code at column 0 (01 R12). -/
theorem offerCode_key_empty (hline : s.la.key = emptyLine) (hlo : 0x20 ≤ b.toNat) (hhi : b.toNat ≠ 0x7F) :
    offerCode .key b .none s = .taken (s.putLine .key
      ⟨[⟨0, ⟨b, false, false, false⟩⟩], 1, false, false, some (fontOf (s.opt 18)), []⟩) := by
  have hblank : s.line .key = emptyLine := hline
  have hroom : emptyLine.column + emptyLine.need ≤ lineWidth s emptyLine := by
    show 1 ≤ (fontOf (s.opt 18)).columns
    cases fontOf (s.opt 18) <;> decide
  have hcode : printableCode b .none = true := by simp [printableCode, hlo, hhi]
  simp only [offerCode, takePrintable, hblank, hcode, if_pos hroom]
  rfl

end Code

/-! ### A code by its destinations (08 R155, R156) -/

/-- KEY CODE of an event. -/
def keyCode (ev : KeyEvent) (b : Byte) : Notice := .keyCode ev.key ev.kind ev.mods.layer b

/-- One event waits, a code, with the lock and the form unit out of its way. -/
structure CodeWaits (s : State) (ev : KeyEvent) (b : Byte) : Prop where
  awake : Awake s
  alone : s.ks.kq = [ev]
  entry : (s.kr.entry ev.mods.layer ev.key).kind = .code b
  unlocked : s.tor.nums.getD 32 0 = 0
  closed : s.fu.inst = none
  room : s.port.out.length ≤ 90

namespace CodeWaits

variable {s v : State} {ev : KeyEvent} {b : Byte}

/-- A destination that is not ready holds the code back. -/
theorem exec_stays (h : CodeWaits s ev b) (hready : codeReady s = false) :
    exec .keyEventExamine s = .next s :=
  exec_key_stays h.awake h.alone ((routeEvent_code h.entry h.unlocked h.closed).trans (routeCode_stays hready))

/-- A code that the controller is not told. -/
theorem exec_quiet (h : CodeWaits s ev b) (hroute : routeCode b ev s = (v, true)) (hks : v.ks = s.ks)
    (hraised : v.raised = s.raised) : exec .keyEventExamine s = .next (keyTaken v) :=
  exec_key_quiet h.awake h.alone ((routeEvent_code h.entry h.unlocked h.closed).trans hroute) hks
    (hraised.trans h.awake.2)

/-- A code that the controller is told, behind what the other destinations leave. -/
theorem exec_told (h : CodeWaits s ev b) (hroute : routeCode b ev s = (raise (keyCode ev b) v, true))
    (hks : v.ks = s.ks) (hraised : v.raised = s.raised) (hport : v.port = s.port) :
    exec .keyEventExamine s = .next ((keyTaken v).answered (keyCode ev b).bytes) := by
  have hquiet : v.raised = [] := hraised.trans h.awake.2
  have hroute' := (routeEvent_code h.entry h.unlocked h.closed).trans hroute
  rw [raise, hquiet] at hroute'
  exact exec_key_told h.awake h.alone hroute' hks hquiet hport
    (Nat.add_le_add (Nat.le_trans h.room (by decide : 90 ≤ 122)) (Nat.le_refl 6))

/-- A code for the controller alone. -/
theorem exec_controller (h : CodeWaits s ev b) (hfar : codeToFar s = false) (hctl : codeToController s = true)
    (hecho : codeToEcho s = false) :
    exec .keyEventExamine s = .next ((keyTaken s).answered (keyCode ev b).bytes) := by
  refine h.exec_told ?_ rfl rfl rfl
  rw [routeCode_plain (codeReady_free hfar hecho) hecho, hfar, hctl]
  rfl

/-- A code without a destination. -/
theorem exec_nowhere (h : CodeWaits s ev b) (hfar : codeToFar s = false) (hctl : codeToController s = false)
    (hecho : codeToEcho s = false) : exec .keyEventExamine s = .next (keyTaken s) := by
  refine h.exec_quiet ?_ rfl rfl
  rw [routeCode_plain (codeReady_free hfar hecho) hecho, hfar, hctl]
  rfl

/-- TXQ with the byte of a code joined. -/
def byteJoined (b : Byte) (s : State) : State :=
  { s with framer := { s.framer with data := s.framer.data ++ [b] } }

/-- A code that TXQ has room for, behind a character in flight. -/
theorem routeCode_far (hfar : codeToFar s = true) (hecho : codeToEcho s = false)
    (hroom : s.framer.data.length < 158) (hreply : ∀ r, s.dp ≠ .replyWait r)
    (hflight : s.framer.inFlight ≠ none) : routeCode b ev s
      = (if codeToController s then raise (keyCode ev b) (byteJoined b s) else byteJoined b s, true) := by
  rw [routeCode_plain (codeReady_room hroom hreply hecho) hecho, sendCode, hfar, if_pos rfl,
    addData_waits (.inr hflight)]
  rfl

/-- A code for the far end alone. -/
theorem exec_far (h : CodeWaits s ev b) (hfar : codeToFar s = true) (hctl : codeToController s = false)
    (hecho : codeToEcho s = false) (hroom : s.framer.data.length < 158) (hreply : ∀ r, s.dp ≠ .replyWait r)
    (hflight : s.framer.inFlight ≠ none) : exec .keyEventExamine s = .next (keyTaken (byteJoined b s)) := by
  refine h.exec_quiet ?_ rfl rfl
  rw [routeCode_far hfar hecho hroom hreply hflight, hctl]
  rfl

/-- A code for the far end and the controller. -/
theorem exec_both (h : CodeWaits s ev b) (hfar : codeToFar s = true) (hctl : codeToController s = true)
    (hecho : codeToEcho s = false) (hroom : s.framer.data.length < 158) (hreply : ∀ r, s.dp ≠ .replyWait r)
    (hflight : s.framer.inFlight ≠ none) :
    exec .keyEventExamine s = .next ((keyTaken (byteJoined b s)).answered (keyCode ev b).bytes) := by
  refine h.exec_told ?_ rfl rfl rfl
  rw [routeCode_far hfar hecho hroom hreply hflight, hctl]
  rfl

/-- A printable code for the controller, echoed into an empty KEY line. -/
theorem exec_echo (h : CodeWaits s ev b) (hfar : codeToFar s = false) (hctl : codeToController s = true)
    (hecho : codeToEcho s = true) (hline : s.la.key = emptyLine) (hlo : 0x20 ≤ b.toNat) (hhi : b.toNat ≠ 0x7F) :
    exec .keyEventExamine s = .next ((keyTaken (s.putLine .key
      ⟨[⟨0, ⟨b, false, false, false⟩⟩], 1, false, false, some (fontOf (s.opt 18)), []⟩)).answered
      (keyCode ev b).bytes) := by
  have hwait : s.la.key.waiting = [] := by rw [hline]; rfl
  refine h.exec_told ?_ rfl rfl rfl
  rw [routeCode_echo (codeReady_keyLine hfar hwait) hecho (offerCode_key_empty hline hlo hhi), hfar, hctl]
  rfl

end CodeWaits

/-! ### Several codes (08 R153) -/

section Several

variable {s : State} {e : KeyEvent} {evs rest : List KeyEvent} {code : KeyEvent → Byte}

/-- Without form, lock and echo, and with field 32 at 1, a code is told to the controller and that is all. -/
structure OnlyTold (s : State) : Prop where
  closed : s.fu.inst = none
  unlocked : s.tor.nums.getD 32 0 = 0
  echoOff : s.tor.nums.getD 0 0 = 0
  toController : s.tor.nums.getD 31 0 = 1

theorem OnlyTold.routeEvent {b : Byte} (h : OnlyTold s)
    (hentry : (s.kr.entry e.mods.layer e.key).kind = .code b) :
    routeEvent e s = (raise (keyCode e b) s, true) := by
  have hfar := codeToFar_told h.toController
  have hctl : codeToController s = true := codeToController_told (.inr (.inl h.toController))
  have hecho := codeToEcho_off (.inl h.echoOff)
  rw [routeEvent_code hentry h.unlocked h.closed, routeCode_plain (codeReady_free hfar hecho) hecho, hfar, hctl]
  rfl

/-- The codes of `evs` taken, `rest` left in KQ. -/
def codesTaken (evs rest : List KeyEvent) (code : KeyEvent → Byte) (s : State) : State :=
  { s with
    raised := s.raised ++ evs.map fun e => keyCode e (code e)
    ks := { s.ks with
      kq := rest, kqOverrun := s.ks.kqOverrun && evs.isEmpty, echoBegun := s.ks.echoBegun && evs.isEmpty } }

/-- The codes at the front of KQ are taken in order. -/
theorem examineHead_codes (fuel : Nat) (h : OnlyTold s) (hkq : s.ks.kq = evs ++ rest)
    (hcode : ∀ e ∈ evs, (s.kr.entry e.mods.layer e.key).kind = .code (code e)) :
    examineHead (evs.length + fuel) s = examineHead fuel (codesTaken evs rest code s) := by
  induction evs generalizing s with
  | nil =>
    have hsame : codesTaken [] rest code s = s := by
      have hrest : s.ks.kq = rest := hkq
      simp [codesTaken, ← hrest]
    rw [hsame, List.length_nil, Nat.zero_add]
  | cons e evs ih =>
    obtain ⟨he, hevs⟩ := List.forall_mem_cons.1 hcode
    have hstep : examineHead ((evs.length + fuel) + 1) s
        = examineHead (evs.length + fuel) ((raise (keyCode e (code e)) s).onKs dropEvent) :=
      examineHead_takes _ hkq (h.routeEvent he)
    have htail : ((raise (keyCode e (code e)) s).onKs dropEvent).ks.kq = evs ++ rest := by
      show s.ks.kq.tail = evs ++ rest
      rw [hkq]
      rfl
    have hlen : (e :: evs).length + fuel = (evs.length + fuel) + 1 := by
      rw [List.length_cons]
      omega
    rw [hlen, hstep,
      ih (s := (raise (keyCode e (code e)) s).onKs dropEvent)
        ⟨h.closed, h.unlocked, h.echoOff, h.toController⟩ htail hevs]
    simp [codesTaken, State.onKs, dropEvent, raise]

/-- FORM n does not leave KQ while entries wait in the KEY line (08 R160). -/
theorem routeEvent_openForm_stays {n : Nat}
    (hentry : (s.kr.entry e.mods.layer e.key).kind = .action (.openForm n))
    (hlock : s.tor.nums.getD 32 0 ≠ 1) (hform : formState s = .closed) (hwait : s.la.key.waiting ≠ []) :
    routeEvent e s = (s, false) := by
  simp [routeEvent, hentry, routeAction, Action.isForm, locked_eq_false hlock, actionReady, hform,
    keyLineFree_eq_false hwait]

theorem keyCode_bytes (e : KeyEvent) (b : Byte) : (keyCode e b).bytes
    = [0x40, 0x04, byteOf e.key, e.kind.byte, byteOf e.mods.layer.num, b] := rfl

theorem keyCodes_length (evs : List KeyEvent) (code : KeyEvent → Byte) :
    ((evs.map fun e => keyCode e (code e)).flatMap Notice.bytes).length = 6 * evs.length := by
  induction evs with
  | nil => rfl
  | cons e evs ih =>
    rw [List.map_cons, List.flatMap_cons, List.length_append, ih, keyCode_bytes, List.length_cons]
    simp only [List.length_cons, List.length_nil]
    omega

/-- KQ's codes are told in order, up to an event that is not taken. -/
theorem exec_codes (hs : Awake s) (h : OnlyTold s) (hkq : s.ks.kq = evs ++ rest)
    (hout : s.port.out.length + 6 * evs.length ≤ 128)
    (hcode : ∀ e ∈ evs, (s.kr.entry e.mods.layer e.key).kind = .code (code e))
    (hrest : rest = [] ∨ ∃ (e : KeyEvent) (more : List KeyEvent) (n : Nat), rest = e :: more
      ∧ (s.kr.entry e.mods.layer e.key).kind = .action (.openForm n) ∧ s.la.key.waiting ≠ []) :
    exec .keyEventExamine s = .next ({ s with ks := { s.ks with
      kq := rest, kqOverrun := s.ks.kqOverrun && evs.isEmpty
      echoBegun := s.ks.echoBegun && evs.isEmpty } }.answered
      (evs.flatMap fun e : KeyEvent =>
        [0x40, 0x04, byteOf e.key, e.kind.byte, byteOf e.mods.layer.num, code e])) := by
  have hstays : examineHead rest.length (codesTaken evs rest code s) = codesTaken evs rest code s := by
    rcases hrest with rfl | ⟨e, more, n, rfl, hentry, hwait⟩
    · rfl
    · have hlock : s.tor.nums.getD 32 0 ≠ 1 := by rw [h.unlocked]; decide
      exact examineHead_stays (rest := more) _ rfl
        (routeEvent_openForm_stays hentry hlock (formState_none h.closed) hwait)
  have hexamine : examine s = codesTaken evs rest code s := by
    rw [examine, hkq, List.length_append, examineHead_codes _ h hkq hcode, hstays]
  have hexec : exec .keyEventExamine s = .next (placeNotices (examine s)) := event_next hs.1
  rw [hexec, hexamine]
  have hplaced := foldl_placeNotice_room (p := s.port) (ns := evs.map fun e => keyCode e (code e))
    (by rw [keyCodes_length]; exact hout)
  simp only [placeNotices, codesTaken, hs.2, List.nil_append, hplaced, List.flatMap_map, keyCode_bytes]
  rfl

end Several

end Sys2Proof.Machine

/-! PROOFS: the key actions and what their owners make of them (O36). -/

namespace Sys2Proof.Machine

/-! ### How an action's examination ends (08 R159 to R161) -/

/-- KEY_EVENT_EXAMINE with the action `a` of `ev` ends in `v`, the event gone, with KEY ACTION and `bytes`
behind what the output FIFO held. -/
def ActEnds (s : State) (ev : KeyEvent) (a : Action) (v : State) (bytes : List Byte) : Prop :=
  exec .keyEventExamine s = .next ((keyTaken v).answered
    ([0x41, 0x04, byteOf ev.key, ev.kind.byte, byteOf ev.mods.layer.num, byteOf a.num] ++ bytes))

/-- The state in which the owner finds the action: KEY ACTION raised, and nothing else. -/
def actionTold (ev : KeyEvent) (a : Action) (s : State) : State :=
  { s with raised := [.keyAction ev.key ev.kind ev.mods.layer a] }

/-- One event waits, an action. -/
structure ActionWaits (s : State) (ev : KeyEvent) (a : Action) : Prop where
  awake : Awake s
  alone : s.ks.kq = [ev]
  entry : (s.kr.entry ev.mods.layer ev.key).kind = .action a
  room : s.port.out.length ≤ 90

/-- Only form actions wait for the KEY line (08 R160). -/
theorem actionReady_of_not_form {a : Action} {s : State} (h : a.isForm = false) : actionReady a s = true := by
  cases a <;> simp_all [Action.isForm, actionReady]

/-- `ends` read of a state that differs in the notices raised: it holds of the state as it was before them. -/
def BehindNotices (s : State) (ends : State → List Byte → Prop) (w : State) (bytes : List Byte) : Prop :=
  ∀ v, w = { v with raised := w.raised } → v.raised = s.raised → v.ks = s.ks → ends v bytes

namespace ActionWaits

variable {s v : State} {ev : KeyEvent} {a : Action}

theorem routeEvent_eq (h : ActionWaits s ev a) (hlock : (a.isForm && locked s) = false)
    (hready : actionReady a s = true) : routeEvent ev s = (act a (actionTold ev a s), true) := by
  have htold : raise (.keyAction ev.key ev.kind ev.mods.layer a) s = actionTold ev a s := by
    rw [raise, h.awake.2]
    rfl
  simp [routeEvent, h.entry, routeAction, hlock, hready, htold]

/-- What the owner leaves, with the notices behind KEY ACTION. -/
theorem ends_told {ns : List Notice} (h : ActionWaits s ev a) (hlock : (a.isForm && locked s) = false)
    (hready : actionReady a s = true)
    (hact : act a (actionTold ev a s)
      = { v with raised := .keyAction ev.key ev.kind ev.mods.layer a :: ns })
    (hks : v.ks = s.ks) (hraised : v.raised = s.raised) (hport : v.port = s.port)
    (hsize : (ns.flatMap Notice.bytes).length ≤ 32) : ActEnds s ev a v (ns.flatMap Notice.bytes) :=
  exec_key_told (ns := .keyAction ev.key ev.kind ev.mods.layer a :: ns) h.awake h.alone
    ((h.routeEvent_eq hlock hready).trans (by rw [hact])) hks (hraised.trans h.awake.2) hport (by
      have hroom := h.room
      simp only [List.flatMap_cons, List.length_append, Notice.bytes, Notice.parts, List.length_cons,
        List.length_nil] at hsize ⊢
      omega)

/-- An action that is no form action is always taken. -/
theorem ends_act {ns : List Notice} (h : ActionWaits s ev a) (hform : a.isForm = false)
    (hact : act a (actionTold ev a s)
      = { v with raised := .keyAction ev.key ev.kind ev.mods.layer a :: ns })
    (hks : v.ks = s.ks) (hraised : v.raised = s.raised) (hport : v.port = s.port)
    (hsize : (ns.flatMap Notice.bytes).length ≤ 32) : ActEnds s ev a v (ns.flatMap Notice.bytes) := by
  exact h.ends_told (by rw [hform]; rfl) (actionReady_of_not_form hform) hact hks hraised hport hsize

/-- An action that its owner discards. -/
theorem ends_discarded (h : ActionWaits s ev a) (hform : a.isForm = false)
    (hact : act a (actionTold ev a s) = actionTold ev a s) : ActEnds s ev a s [] :=
  h.ends_act (ns := []) hform hact rfl rfl rfl (Nat.zero_le _)

end ActionWaits

/-! ### BREAK, and ORIG and ANS (04 R75, R92) -/

section Link

variable {s : State} {ev : KeyEvent} {a : Action}

theorem ActionWaits.ends_break (h : ActionWaits s ev .breakKey) (honline : s.link.state = .online)
    (hbreak : s.link.breakSend = .none) : ActEnds s ev .breakKey { s with link := { s.link with
      breakSend := if s.framer.inFlight = none then .sending else .waiting } } [] := by
  refine h.ends_act (ns := []) rfl ?_ rfl rfl rfl (Nat.zero_le _)
  have haccept : breakAccepted (actionTold ev .breakKey s) = true := by
    simp [breakAccepted, actionTold, honline, hbreak]
  have hact : act .breakKey (actionTold ev .breakKey s) = startBreakSend (actionTold ev .breakKey s) :=
    if_pos haccept
  rw [hact]
  cases hflight : s.framer.inFlight <;> simp [startBreakSend, actionTold, State.onLink, hflight]

theorem ActionWaits.ends_noBreak (h : ActionWaits s ev .breakKey)
    (hno : s.link.state ≠ .online ∨ s.link.breakSend ≠ .none) : ActEnds s ev .breakKey s [] := by
  refine h.ends_discarded rfl (if_neg ?_)
  rcases hno with hno | hno <;> simp [breakAccepted, actionTold, hno]

/-- The link as the ORIG or ANS key starts it. -/
def connectionStarted (a : Action) (s : State) : State :=
  { s with link := { s.link with
    state := if a = .orig then .listen else .answering
    role := if a = .orig then .originate else .answer
    rate := some (if s.tor.nums.getD 1 0 = 0 then 110 else if s.tor.nums.getD 1 0 = 1 then 150 else 300)
    connectWait := some (s.tor.nums.getD 15 0), level := none } }

theorem linkStartBlocked_eq_false (hpower : s.port.power ≠ .waking) (hload : s.store.state.isLoading = false) :
    linkStartBlocked s = false := by
  simp [linkStartBlocked, hpower, hload]

theorem ActionWaits.ends_start (h : ActionWaits s ev a) (ha : a = .orig ∨ a = .ans)
    (hdown : s.link.state = .down) (hpower : s.port.power ≠ .waking) (hload : s.store.state.isLoading = false) :
    ActEnds s ev a (connectionStarted a s) [0x44, 0x02, if a = .orig then 0x01 else 0x02, 0x01] := by
  have hfree : linkStartBlocked (actionTold ev a s) = false := linkStartBlocked_eq_false hpower hload
  have hstart : ∀ r, startKey r (actionTold ev a s) = startConnection r .key (actionTold ev a s) :=
    fun r => if_pos ⟨hdown, by rw [hfree]; rfl⟩
  rcases ha with rfl | rfl
  · exact h.ends_act (ns := [.linkState .listen .key]) rfl (hstart .originate) rfl rfl rfl (by decide)
  · exact h.ends_act (ns := [.linkState .answering .key]) rfl (hstart .answer) rfl rfl rfl (by decide)

theorem ActionWaits.ends_noStart (h : ActionWaits s ev a) (ha : a = .orig ∨ a = .ans)
    (hno : s.link.state ≠ .down ∨ s.port.power = .waking ∨ s.store.state.isLoading = true) :
    ActEnds s ev a s [] := by
  have hstays : ∀ r, startKey r (actionTold ev a s) = actionTold ev a s := fun r => by
    refine if_neg fun ⟨hdown, hfree⟩ => ?_
    rcases hno with hno | hno | hno
    · exact hno hdown
    · simp [linkStartBlocked, actionTold, hno] at hfree
    · simp [linkStartBlocked, actionTold, hno] at hfree
  rcases ha with rfl | rfl
  · exact h.ends_discarded rfl (hstays .originate)
  · exact h.ends_discarded rfl (hstays .answer)

/-! ### DROP (04 R93, R94) -/

/-- Outside QUALIFY, without a FAR line to commit and a report to abandon, an entry to DOWN touches the link,
the framer and the parser alone. -/
theorem enterDown_alone {cause : LinkCause} (h : s.link.state = .listen ∨ s.link.state = .answering
      ∨ ((s.link.state = .online ∨ s.link.state = .fade) ∧ s.la.far.cells = []
        ∧ s.fu.inst.map FormInst.phase ≠ some .reporting)) : enterDown cause false s = linkDown cause s := by
  rcases h with h | h | ⟨hlink, hcells, hform⟩
  · simp [enterDown, h, linkDown]
  · simp [enterDown, h, linkDown]
  · have hcommit : commitRequest .far (linkDown cause s) = linkDown cause s := by
      refine if_pos (List.isEmpty_iff.2 ?_)
      rw [linkDown_eq]
      exact hcells
    rw [enterDown_connected hlink, hcommit, abandonReport]
    have hinst : (linkDown cause s).fu.inst = s.fu.inst := by rw [linkDown_eq]
    split
    · next i hi =>
      refine if_neg fun hphase => hform ?_
      rw [← hinst, hi, Option.map_some, hphase]
    · rfl

/-- A pending gain change is applied as the link leaves (04 R85). -/
theorem linkDown_gain (cause : LinkCause) (s : State) : (linkDown cause s).link.gain =
    if s.link.gainPending = true ∧ s.tor.nums.getD 9 0 = 1
      then floor5 (clampInt 0 420 (s.tor.nums.getD 10 0)) else s.link.gain := by
  show (applyPendingGain _).link.gain = _
  unfold applyPendingGain
  by_cases hpending : s.link.gainPending = true
  · rw [if_pos (by exact hpending)]
    by_cases hfixed : s.tor.nums.getD 9 0 = 1
    · rw [if_pos ⟨hpending, hfixed⟩]
      exact if_pos hfixed
    · rw [if_neg fun h => hfixed h.2]
      exact if_neg hfixed
  · rw [if_neg (by exact hpending), if_neg fun h => hpending h.1]
    rfl

theorem ActionWaits.ends_down (h : ActionWaits s ev .drop) (hdown : s.link.state = .down) :
    ActEnds s ev .drop s [] :=
  h.ends_discarded rfl (if_pos hdown)

/-- The state of a link that the DROP key takes down. -/
def linkDropped (s : State) : State :=
  { s with
    link := { s.link with
      state := .down, role := .none, connectWait := none, qualify := none, holdover := none
      breakSend := .none, spaceRun := none, breakPending := false, level := none
      gainPending := false
      gain := if s.link.gainPending = true ∧ s.tor.nums.getD 9 0 = 1
        then floor5 (clampInt 0 420 (s.tor.nums.getD 10 0)) else s.link.gain }
    framer := framerDown s.framer
    dp := parserDown s.dp }

theorem ActionWaits.ends_drop (h : ActionWaits s ev .drop) (hlink : s.link.state = .listen
      ∨ s.link.state = .answering ∨ ((s.link.state = .online ∨ s.link.state = .fade) ∧ s.la.far.cells = []
        ∧ s.fu.inst.map FormInst.phase ≠ some .reporting)) :
    ActEnds s ev .drop (linkDropped s) [0x44, 0x02, 0x00, 0x01] := by
  have hup : s.link.state ≠ .down := by
    rcases hlink with h | h | ⟨h | h, -⟩ <;> simp [h]
  have hact : act .drop (actionTold ev .drop s) = linkDown .key (actionTold ev .drop s) :=
    (if_neg hup).trans (enterDown_alone hlink)
  refine h.ends_act (ns := [.linkState .down .key]) rfl ?_ rfl rfl rfl (by decide)
  rw [hact, linkDown_eq, linkDown_gain]
  rfl

end Link

/-! ### FEED (03 R65) -/

section Feed

variable {s : State} {ev : KeyEvent}

/-- The FEED key begins a direct feed: the engine is IDLE, or HELD by PAPER OUT or STOPPED alone. -/
def FeedStarts (s : State) : Prop :=
  (s.pe.engine = .idle ∧ s.pe.hold = noHold)
    ∨ (s.pe.engine = .held ∧ (s.pe.hold.paperOut = true ∨ s.pe.hold.stopped = true)
      ∧ s.pe.hold.hot = false ∧ s.pe.hold.lowSupply = false ∧ s.pe.hold.leverUp = false
      ∧ s.pe.hold.linkTraining = false)

/-- A direct feed of 96 rows asked for, none of them begun. -/
def feedAsked (s : State) : State := s.onPe fun pe => { pe with directFeed := some 96 }

theorem FeedStarts.feedAllowed (h : FeedStarts s) : s.pe.hold.feedAllowed = true := by
  rcases h with ⟨-, hhold⟩ | ⟨-, -, hhot, hlow, hlever, htraining⟩
  · rw [hhold]
    rfl
  · simp [HoldSet.feedAllowed, hhot, hlow, hlever, htraining]

theorem FeedStarts.lowSupply (h : FeedStarts s) : s.pe.hold.lowSupply = false := by
  rcases h with ⟨-, hhold⟩ | ⟨-, -, -, hlow, -⟩
  · rw [hhold]
    rfl
  · exact hlow

theorem feedKey_starts (h : FeedStarts s) : feedKey s = beginDirectRow (feedAsked s) := by
  have hdecide : feedKey s = engineDecide (feedAsked s) := by
    unfold feedKey
    refine if_pos ?_
    rcases h with ⟨hidle, -⟩ | ⟨hheld, hcause, hhot, hlow, hlever, htraining⟩
    · rw [hidle]
    · rw [hheld]
      simp [HoldSet.feedAllowed, hcause, hhot, hlow, hlever, htraining]
  have hgoes : directFeedGoesOn (feedAsked s).pe = true := h.feedAllowed
  rw [hdecide]
  exact if_pos hgoes

theorem feedKey_discarded (h : ¬FeedStarts s) (hbusy : s.pe.engine ≠ .idle) : feedKey s = s := by
  unfold feedKey
  refine if_neg fun hstarts => h ?_
  split at hstarts
  · next hidle => exact absurd hidle hbusy
  · next hheld =>
    refine .inr ⟨hheld, ?_⟩
    simp only [HoldSet.feedAllowed, Bool.and_eq_true, Bool.not_eq_true', Bool.or_eq_true,
      Bool.or_eq_false_iff] at hstarts
    obtain ⟨⟨⟨⟨hhot, hlow⟩, hlever⟩, htraining⟩, hcause⟩ := hstarts
    exact ⟨hcause, hhot, hlow, hlever, htraining⟩
  · exact absurd hstarts Bool.false_ne_true

/-- The engine HELD by LOW SUPPLY as well, no direct feed left. -/
def supplyLow (pe : PrintEngine) : PrintEngine :=
  if pe.engine = .held then { pe with hold := { pe.hold with lowSupply := true }, directFeed := none }
  else { pe with
    hold := { pe.hold with lowSupply := true }, directFeed := none, engine := .held, history := 0
    forced := true }

theorem lowSupplyStop_eq (h : s.pe.hold.lowSupply = false) : lowSupplyStop s
    = raise (.holdChange { s.pe.hold with lowSupply := true }) { s with pe := supplyLow s.pe } := by
  have hcause : setCause .lowSupply s = raise (.holdChange { s.pe.hold with lowSupply := true })
      (s.onPe fun pe => { pe with hold := { pe.hold with lowSupply := true } }) :=
    if_neg (by simp [HoldSet.has, h])
  rw [lowSupplyStop, hcause]
  by_cases hheld : s.pe.engine = .held <;>
    simp [enterHeld, supplyLow, hheld, State.onPe, raise]

theorem ActionWaits.ends_feed (h : ActionWaits s ev .feedKey) (hstarts : FeedStarts s)
    (hsupply : 50 ≤ s.pins.vsense) : ActEnds s ev .feedKey { s with pe := { s.pe with
      engine := .feeding, directFeed := some 96, lastV := some s.pins.vsense, row := .stepFeed } } [] := by
  refine h.ends_act (ns := []) rfl ?_ rfl rfl rfl (Nat.zero_le _)
  have hact : act .feedKey (actionTold ev .feedKey s) = beginDirectRow (feedAsked (actionTold ev .feedKey s)) :=
    feedKey_starts hstarts
  rw [hact]
  exact if_neg (Nat.not_lt.2 hsupply)

theorem ActionWaits.ends_lowSupply (h : ActionWaits s ev .feedKey) (hstarts : FeedStarts s)
    (hsupply : s.pins.vsense < 50) : ActEnds s ev .feedKey { s with pe := supplyLow s.pe }
      [0x4C, 0x01, HoldSet.byte { s.pe.hold with lowSupply := true }] := by
  refine h.ends_act (ns := [.holdChange { s.pe.hold with lowSupply := true }]) rfl ?_ rfl rfl rfl
    (by exact Nat.le_add_left 3 29)
  have hact : act .feedKey (actionTold ev .feedKey s) = beginDirectRow (feedAsked (actionTold ev .feedKey s)) :=
    feedKey_starts hstarts
  have hlow : beginDirectRow (feedAsked (actionTold ev .feedKey s))
      = lowSupplyStop (feedAsked (actionTold ev .feedKey s)) := if_pos hsupply
  rw [hact, hlow, lowSupplyStop_eq (s := feedAsked _) (by exact hstarts.lowSupply)]
  rfl

theorem ActionWaits.ends_noFeed (h : ActionWaits s ev .feedKey) (hno : ¬FeedStarts s)
    (hbusy : s.pe.engine ≠ .idle) : ActEnds s ev .feedKey s [] :=
  h.ends_discarded rfl (feedKey_discarded hno hbusy)

end Feed

end Sys2Proof.Machine

/-! PROOFS: the form actions of the keys, and the router's statement (O36). -/

namespace Sys2Proof.Machine

/-! ### Requests of a key to the form unit (08 R160) -/

section Requests

variable {s : State} {ev : KeyEvent} {a : Action} {n : Nat} {o : Byte} {ns : List Notice}
  {ends : State → List Byte → Prop}

theorem OpenIsTaken.of_behind (h : OpenIsTaken o n { s with raised := ns } (BehindNotices s ends)) :
    OpenIsTaken o n s ends := by
  obtain ⟨hstate, habsent, hopens⟩ := h
  refine ⟨fun i hi => hstate i hi s rfl rfl rfl, fun hi hslot => habsent hi hslot s rfl rfl rfl,
    fun t hi hslot hprompt hquiet => ?_⟩
  obtain ⟨j, hends, hj⟩ := hopens t hi hslot hprompt hquiet
  exact ⟨j, hends _ rfl rfl rfl, hj⟩

theorem CommitIsTaken.of_behind (h : CommitIsTaken o { s with raised := ns } (BehindNotices s ends)) :
    CommitIsTaken o s ends := by
  obtain ⟨hnone, hstate, hopened⟩ := h
  refine ⟨fun hi => hnone hi s rfl rfl rfl, fun i hi hphase => hstate i hi hphase s rfl rfl rfl,
    fun i fails hi hphase hfails => ?_⟩
  obtain ⟨hreject, haccept⟩ := hopened i fails hi hphase hfails
  refine ⟨fun f hf => ?_, fun block hf hbusy hquiet hblock => ?_⟩
  · obtain ⟨hstays, hmoves⟩ := hreject f hf
    exact ⟨fun h => hstays h s rfl rfl rfl,
      fun hentered hprotect hcurrent hprompt hquiet =>
        hmoves hentered hprotect hcurrent hprompt hquiet _ rfl rfl rfl⟩
  · obtain ⟨hroom, hpends⟩ := haccept block hf hbusy hquiet hblock
    refine ⟨fun hfits hnone => ?_, fun hfull hq => hpends hfull hq _ rfl rfl rfl⟩
    obtain ⟨hclosed, hreport⟩ := hroom hfits hnone
    exact ⟨fun h => hclosed h _ rfl rfl rfl, fun hfield honline => hreport hfield honline _ rfl rfl rfl⟩

theorem CancelIsTaken.of_behind (h : CancelIsTaken o { s with raised := ns } (BehindNotices s ends)) :
    CancelIsTaken o s ends := by
  obtain ⟨hopened, hpending, hnone, hstate⟩ := h
  exact ⟨fun i hi hphase => hopened i hi hphase _ rfl rfl rfl,
    fun i hi hphase hwait => hpending i hi hphase hwait _ rfl rfl rfl, fun hi => hnone hi s rfl rfl rfl,
    fun i hi hopen hpend => hstate i hi hopen hpend s rfl rfl rfl⟩

/-- A request that is told: its notice stands behind KEY ACTION. -/
theorem ActionWaits.endsTold (h : ActionWaits s ev a) (hlock : s.tor.nums.getD 32 0 ≠ 1)
    (hready : actionReady a s = true) :
    EndsTold (BehindNotices s (ActEnds s ev a)) (actionTold ev a s) (act a (actionTold ev a s)) := by
  intro n w hact hraised hport hsize v hv hquiet hks
  have hvport : v.port = s.port := by
    have hsame : w.port = v.port := by rw [hv]
    rw [← hsame, hport]
    rfl
  have hends := h.ends_told (ns := [n]) (v := v) (by rw [locked_eq_false hlock, Bool.and_false]) hready ?_ hks
    hquiet hvport (by simp only [List.flatMap_cons, List.flatMap_nil, List.append_nil]; omega)
  · rwa [List.flatMap_cons, List.flatMap_nil, List.append_nil] at hends
  · rw [hact, raise, hraised, hv]
    rfl

/-- A form action that raises nothing. -/
theorem ActionWaits.ends_form {v : State} (h : ActionWaits s ev a) (hlock : s.tor.nums.getD 32 0 ≠ 1)
    (hready : actionReady a s = true) (hact : act a (actionTold ev a s) = actionTold ev a v)
    (hks : v.ks = s.ks) (hraised : v.raised = s.raised) (hport : v.port = s.port) : ActEnds s ev a v [] :=
  h.ends_told (ns := []) (by rw [locked_eq_false hlock, Bool.and_false]) hready hact hks hraised hport
    (Nat.zero_le _)

end Requests

/-! ### The lock and a KEY line with waiting entries (08 R160) -/

section Held

variable {s : State} {ev : KeyEvent} {a : Action}

theorem isForm_iff : a.isForm = true
    ↔ a ∈ [Action.fieldNext, .fieldBack, .formEnter, .formCancel] ∨ ∃ n, a = .openForm n := by
  cases a <;> simp [Action.isForm]

/-- The lock discards a form action without a notice. -/
theorem ActionWaits.exec_locked (h : ActionWaits s ev a) (hform : a.isForm = true)
    (hlock : s.tor.nums.getD 32 0 = 1) : exec .keyEventExamine s = .next (keyTaken s) := by
  have hlocked : locked s = true := decide_eq_true hlock
  have hroute : routeEvent ev s = (s, true) := by simp [routeEvent, h.entry, routeAction, hform, hlocked]
  exact exec_key_quiet h.awake h.alone hroute rfl h.awake.2

theorem ActionWaits.exec_stays (h : ActionWaits s ev a) (hlock : s.tor.nums.getD 32 0 ≠ 1)
    (hready : actionReady a s = false) : exec .keyEventExamine s = .next s :=
  exec_key_stays h.awake h.alone (by simp [routeEvent, h.entry, routeAction, locked_eq_false hlock, hready])

/-- FORM n in CLOSED, and FIELD NEXT, FIELD BACK and FORM ENTER in OPEN, wait for the KEY line. -/
theorem actionReady_eq_false (hwait : s.la.key.waiting ≠ [])
    (h : ((∃ n, a = .openForm n) ∧ formState s = .closed)
      ∨ (a ∈ [Action.fieldNext, .fieldBack, .formEnter] ∧ formState s = .opened)) :
    actionReady a s = false := by
  have hline := keyLineFree_eq_false hwait
  rcases h with ⟨⟨n, rfl⟩, hstate⟩ | ⟨ha, hstate⟩
  · simp [actionReady, hstate, hline]
  · simp only [List.mem_cons, List.not_mem_nil, or_false] at ha
    rcases ha with rfl | rfl | rfl <;> simp [actionReady, hstate, hline]

theorem actionReady_openForm {n : Nat} (h : formState s ≠ .closed ∨ s.la.key.waiting = []) :
    actionReady (.openForm n) s = true := by
  rcases h with h | h
  · simp [actionReady, h]
  · simp [actionReady, keyLineFree_of_nil h]

/-- Outside OPEN the actions on an open form wait for nothing. -/
theorem actionReady_field (ha : a = .fieldNext ∨ a = .fieldBack ∨ a = .formEnter)
    (h : formState s ≠ .opened ∨ s.la.key.waiting = []) : actionReady a s = true := by
  rcases h with h | h
  · rcases ha with rfl | rfl | rfl <;> simp [actionReady, h]
  · rcases ha with rfl | rfl | rfl <;> simp [actionReady, keyLineFree_of_nil h]

end Held

/-! ### Field motion (09 R175) -/

section Motion

variable {s : State} {ev : KeyEvent} {a : Action} {i : FormInst} {fs : List Field} {f g : Field}

/-- `g` is the field behind `f` in the list, the first behind the last. -/
def Follows (fs : List Field) (f g : Field) : Prop :=
  (∃ pre post, fs = pre ++ f :: g :: post) ∨ (fs.getLast? = some f ∧ fs.head? = some g)

theorem Follows.reverse (h : Follows fs f g) : Follows fs.reverse g f := by
  rcases h with ⟨pre, post, rfl⟩ | ⟨hlast, hhead⟩
  · exact .inl ⟨post.reverse, pre.reverse, by simp⟩
  · exact .inr ⟨by rw [List.getLast?_reverse, hhead], by rw [List.head?_reverse, hlast]⟩

/-- The part of a list of distinct ids that begins with a member's id. -/
theorem dropWhile_id {pre post : List Field} (hnodup : ((pre ++ f :: post).map Field.id).Nodup) :
    (pre ++ f :: post).dropWhile (fun x => x.id ≠ f.id) = f :: post := by
  have hpre : ∀ x ∈ pre, decide (x.id ≠ f.id) = true := fun x hx => by
    rw [List.map_append, List.map_cons] at hnodup
    exact decide_eq_true ((List.nodup_append.1 hnodup).2.2 _ (List.mem_map_of_mem hx) _ List.mem_cons_self)
  rw [List.dropWhile_append_of_pos hpre, List.dropWhile_cons_of_neg (by simp)]

theorem fieldAfter_eq (hnodup : (fs.map Field.id).Nodup) (h : Follows fs f g) :
    fieldAfter fs f.id = some g := by
  rcases h with ⟨pre, post, rfl⟩ | ⟨hlast, hhead⟩
  · rw [fieldAfter, dropWhile_id hnodup]
    rfl
  · obtain ⟨pre, rfl⟩ := List.getLast?_eq_some_iff.1 hlast
    rw [fieldAfter, dropWhile_id hnodup]
    exact hhead

/-- A field that becomes the current field of the form. -/
def fieldMoved (i : FormInst) (f : Field) (s : State) : State :=
  { s with fu := { s.fu with inst := some { i with
    current := some f.id, edit := valueText f.kind (valueOf i.vals f.id) } } }

/-- Outside OPEN, and without a current field, nothing moves. -/
theorem moveField_stays (back : Bool)
    (h : formState s ≠ .opened ∨ ∃ i, s.fu.inst = some i ∧ i.current = none) : moveField back s = s := by
  unfold moveField
  split
  · next j hinst =>
    split
    · next hphase hcurrent =>
      rcases h with h | ⟨i, hi, hnone⟩
      · exact absurd ((formState_inst hinst).trans hphase) h
      · rw [hinst, Option.some.injEq] at hi
        rw [hi, hnone] at hcurrent
        cases hcurrent
    · rfl
  · rfl

/-- The move, without a prompt and with nothing for the KEY line. -/
theorem moveField_moves {back : Bool} (hinst : s.fu.inst = some i) (hphase : i.phase = .opened)
    (hprompt : s.tor.nums.getD 35 0 = 0) (hquiet : KeyLineQuiet s) (hcurrent : i.current = some f.id)
    (hafter : fieldAfter (if back then s.formTemplate.enterable.reverse else s.formTemplate.enterable) f.id
      = some g) : moveField back s = fieldMoved i g s := by
  simp only [moveField, hinst, hphase, hcurrent, hafter]
  rw [writePrompt_plain (by exact hprompt) (by exact hquiet)]
  rfl

theorem ActionWaits.ends_fieldStays (h : ActionWaits s ev a) (ha : a = .fieldNext ∨ a = .fieldBack)
    (hlock : s.tor.nums.getD 32 0 ≠ 1) (hline : formState s ≠ .opened ∨ s.la.key.waiting = [])
    (hstays : formState s ≠ .opened ∨ ∃ i, s.fu.inst = some i ∧ i.current = none) : ActEnds s ev a s [] := by
  have hready : actionReady a s = true := actionReady_field (ha.imp_right .inl) hline
  refine h.ends_form hlock hready ?_ rfl rfl rfl
  rcases ha with rfl | rfl
  · exact moveField_stays false hstays
  · exact moveField_stays true hstays

/-- A form in OPEN, without a prompt and with nothing for the KEY line, its enterable fields told apart by their
ids. -/
structure FieldsMove (s : State) (i : FormInst) : Prop where
  inst : s.fu.inst = some i
  phase : i.phase = .opened
  prompt : s.tor.nums.getD 35 0 = 0
  quiet : KeyLineQuiet s
  nodup : (s.formTemplate.enterable.map Field.id).Nodup

theorem FieldsMove.ready (h : FieldsMove s i) (ha : a = .fieldNext ∨ a = .fieldBack) :
    actionReady a s = true := by
  obtain ⟨-, hwait, -⟩ := h.quiet
  exact actionReady_field (ha.imp_right .inl) (.inr hwait)

/-- FIELD NEXT moves to the next enterable field, round the end. -/
theorem ActionWaits.ends_fieldNext (h : ActionWaits s ev .fieldNext) (hlock : s.tor.nums.getD 32 0 ≠ 1)
    (hmove : FieldsMove s i) (hnext : Follows s.formTemplate.enterable f g) (hcurrent : i.current = some f.id) :
    ActEnds s ev .fieldNext (fieldMoved i g s) [] :=
  h.ends_form hlock (hmove.ready (.inl rfl))
    (moveField_moves (s := actionTold ev .fieldNext s) (back := false) hmove.inst hmove.phase hmove.prompt
      hmove.quiet hcurrent (fieldAfter_eq hmove.nodup hnext)) rfl rfl rfl

/-- FIELD BACK moves to the field before, round the front. -/
theorem ActionWaits.ends_fieldBack (h : ActionWaits s ev .fieldBack) (hlock : s.tor.nums.getD 32 0 ≠ 1)
    (hmove : FieldsMove s i) (hnext : Follows s.formTemplate.enterable f g) (hcurrent : i.current = some g.id) :
    ActEnds s ev .fieldBack (fieldMoved i f s) [] := by
  have hback : (s.formTemplate.enterable.reverse.map Field.id).Nodup := by
    rw [List.map_reverse]
    exact (List.reverse_perm _).nodup_iff.2 hmove.nodup
  exact h.ends_form hlock (hmove.ready (.inr rfl))
    (moveField_moves (s := actionTold ev .fieldBack s) (back := true) hmove.inst hmove.phase hmove.prompt
      hmove.quiet hcurrent (fieldAfter_eq hback hnext.reverse)) rfl rfl rfl

end Motion

/-- Settles O36: a code by its destinations, an action by its owner, and several codes by induction on KQ. -/
theorem keyEventIsLookedUpAndDelivered : Obligations.KeyEventIsLookedUpAndDelivered := by
  refine ⟨fun s hs hkq => event_idle hs (examine_empty hkq), ?_⟩
  intro s ev ly out hs hkq hform hout hly htaken
  obtain rfl : out = keyTaken := funext htaken
  obtain rfl : ly = ev.mods.layer := hly
  refine ⟨fun hnone => exec_key_quiet hs hkq (routeEvent_nothing hnone) rfl hs.2, fun b hcode => ⟨fun hlock =>
    exec_key_quiet hs hkq (routeEvent_lockedCode hcode hlock) rfl hs.2, fun hlock => ?_⟩,
    fun hlocal => ?_, ?_, ?_⟩
  -- A code by its destinations.
  · have hwaits : CodeWaits s ev b := ⟨hs, hkq, hcode, hlock, hform, hout⟩
    refine ⟨fun hquiet => ?_, fun hecho hlocal htold => ⟨fun hline => ?_, fun hline hlo hhi => ?_⟩⟩
    · have hecho := codeToEcho_off hquiet
      refine ⟨fun htold => ?_, fun hlocal hroute honline => ⟨fun hfull => ?_, fun hroom hreply hflight => ?_⟩,
        fun hlocal hroute hoff => ?_, fun hlocal hroute told htold => ?_⟩
      · exact hwaits.exec_controller (htold.elim codeToFar_local codeToFar_told)
          (codeToController_told (htold.imp_right .inl)) hecho
      · exact hwaits.exec_stays (codeReady_full (codeToFar_online hlocal (.inl hroute) honline) hfull)
      · exact hwaits.exec_far (codeToFar_online hlocal (.inl hroute) honline)
          (codeToController_quiet hlocal hroute) hecho hroom hreply hflight
      · exact hwaits.exec_nowhere (codeToFar_offline hoff) (codeToController_quiet hlocal hroute) hecho
      · have hctl : codeToController s = true := codeToController_told (.inr (.inr hroute))
        refine ⟨fun hoff => ?_, fun honline => ?_⟩
        · rw [htold]
          exact hwaits.exec_controller (codeToFar_offline hoff) hctl hecho
        · have hfar := codeToFar_online hlocal (.inr hroute) honline
          refine ⟨fun hfull => hwaits.exec_stays (codeReady_full hfar hfull), fun hroom hreply hflight => ?_⟩
          rw [htold]
          exact hwaits.exec_both hfar hctl hecho hroom hreply hflight
    · exact hwaits.exec_stays (codeReady_keyWaits (codeToEcho_on hecho hlocal) hline)
    · exact hwaits.exec_echo (codeToFar_told htold) (codeToController_told (.inr (.inl htold)))
        (codeToEcho_on hecho hlocal) hline hlo hhi
  · have hwaits : ActionWaits s ev .localKey := ⟨hs, hkq, hlocal, hout⟩
    exact hwaits.ends_act (ns := []) rfl rfl rfl rfl rfl (Nat.zero_le _)
  -- An action by its owner.
  · intro s ev ly a out ends hs hkq hout hly htaken haction hends
    obtain rfl : out = keyTaken := funext htaken
    obtain rfl : ly = ev.mods.layer := hly
    obtain rfl : ends = ActEnds s ev a := funext fun v => funext fun bytes => propext (hends v bytes)
    have hwaits : ActionWaits s ev a := ⟨hs, hkq, haction, hout⟩
    refine ⟨?_, ?_, ?_, fun ha => ⟨hwaits.ends_noStart ha, hwaits.ends_start ha⟩, ?_, ?_⟩
    · rintro (rfl | rfl | rfl) <;> exact hwaits.ends_discarded rfl rfl
    · rintro rfl
      exact ⟨hwaits.ends_break, hwaits.ends_noBreak⟩
    · rintro rfl starts hstarts
      obtain rfl : starts = FeedStarts s := propext hstarts
      refine ⟨hwaits.ends_feed, ?_, hwaits.ends_noFeed⟩
      rintro hstart hsupply h rfl
      exact hwaits.ends_lowSupply hstart hsupply
    · rintro rfl
      exact ⟨hwaits.ends_down, hwaits.ends_drop⟩
    · intro form hform
      obtain rfl : form = (a.isForm = true) := propext (hform.trans isForm_iff.symm)
      refine ⟨hwaits.exec_locked, fun hlock => ⟨fun hline hstate =>
        hwaits.exec_stays hlock (actionReady_eq_false hline hstate), ?_, ?_, ?_, ?_⟩⟩
      · rintro n rfl hline
        exact .of_behind (openIsTaken (o := .key) (by decide)
          (hwaits.endsTold hlock (actionReady_openForm hline)))
      · rintro rfl hline
        exact .of_behind (commitIsTaken (o := .key) (by decide)
          (hwaits.endsTold hlock (actionReady_field (.inr (.inr rfl)) hline)))
      · rintro rfl
        exact .of_behind (cancelIsTaken (o := .key) (by decide) (hwaits.endsTold hlock rfl))
      · refine fun ha => ⟨fun hstate => hwaits.ends_fieldStays ha hlock (.inl hstate) (.inl hstate), ?_⟩
        intro i moved hinst hphase hline hmoved
        obtain rfl : moved = fun f => fieldMoved i f s := funext hmoved
        refine ⟨fun hnone => hwaits.ends_fieldStays ha hlock (.inr hline) (.inr ⟨i, hinst, hnone⟩), ?_⟩
        intro hprompt hquiet fs hfs hnodup f g hnext
        obtain rfl : fs = s.formTemplate.enterable := hfs
        have hmove : FieldsMove s i := ⟨hinst, hphase, hprompt, hquiet, hnodup⟩
        constructor
        · rintro rfl hcurrent
          exact hwaits.ends_fieldNext hlock hmove hnext hcurrent
        · rintro rfl hcurrent
          exact hwaits.ends_fieldBack hlock hmove hnext hcurrent
  -- Several events.
  · intro s evs rest code ly hs hkq hform hout hlock hecho htold hly hcode hrest
    obtain rfl : ly = fun e => e.mods.layer := funext hly
    exact exec_codes hs ⟨hform, hlock, hecho, htold⟩ hkq hout hcode hrest

end Sys2Proof.Machine
